-- ==== Sys2Proof/Word.lean ====
section
/-! DEFINITION. The fixed widths of the machine (00_scope.md R4 `WORD_BITS`, R5, R6; 20_memory.md R60). -/

namespace Sys2Proof

/-- A BYTE: 8 bits (R5). -/
abbrev Byte := BitVec 8

/-- A WORD: 16 bits (R5). -/
abbrev Word := BitVec 16

/-- A physical address A23..A0 (R60); on a device with a 2-bit segment number only the low 18 bits are used. -/
abbrev PhysAddr := BitVec 24

end Sys2Proof
end

