-- ==== Sys2Proof/Config.lean ====
section
/-! DEFINITION. The implementation parameters of 00_scope.md R4, taken as data, and the free values (`draw`, R12): opaque
constants with no body, of which nothing can be proved. The parameters R4 fixes are no data: `WORD_BITS` 16, `PA_BITS`
16 + `SEG_BITS`, `PAGE_BITS` 10, `DATA_ENDIAN` little (D6), `HAS_DSP` false (D1), `DIV_OVERFLOW_RESULT` a draw (D12),
`INTERRUPT_SOURCES` the requests pending in the state (log entry 27). -/

namespace Sys2Proof

/-- `SEG_BITS` (R4): 2 on the C166, 8 on every other device. -/
inductive SegWidth where
  | two
  | eight
  deriving DecidableEq, Repr

/-- The device class (R3, R4, D1): the width of a segment number, and whether ATOMIC and the EXTx instructions exist. -/
structure Device where
  segWidth : SegWidth := .eight
  hasExt : Bool := true
  deriving DecidableEq, Repr

/-- The CPU core registers of `SFR_MAP` (10_state.md R33). ZEROS and ONES are constants (R35). -/
inductive CoreReg where
  | dpp (k : BitVec 2)
  | csp | mdh | mdl | cp | sp | stkov | stkun | mdc | psw | syscon | zeros | ones | tfr | wdt | wdtcon
  deriving DecidableEq, Repr

/-- `GPR_MODEL` (R4, 10_state.md R22): the general registers are the memory at CP, or a file of their own. -/
inductive GprModel where
  | memoryMapped
  | abstractFile
  deriving DecidableEq, Repr

/-- The default `SFR_MAP` (10_state.md R33): the `reg` number of each core register, its address being the SFR base plus
twice the number. Log entry 5. -/
def defaultSfrMap : List (Nat × CoreReg) :=
  [(0x00, .dpp 0), (0x01, .dpp 1), (0x02, .dpp 2), (0x03, .dpp 3), (0x04, .csp), (0x06, .mdh), (0x07, .mdl),
    (0x08, .cp), (0x09, .sp), (0x0A, .stkov), (0x0B, .stkun), (0x57, .wdt), (0x87, .mdc), (0x88, .psw),
    (0x89, .syscon), (0x8E, .zeros), (0x8F, .ones), (0xD6, .tfr), (0xD7, .wdtcon)]

/-- `SFR_BASE`, `ESFR_BASE`, `BITRAM_BASE`, `BITSFR_BASE`, `BITESFR_BASE` (R4, D3). Log entry 5. -/
structure Bases where
  sfr : PhysAddr := 0x00FE00
  esfr : PhysAddr := 0x00F000
  bitRam : PhysAddr := 0x00FD00
  bitSfr : PhysAddr := 0x00FF00
  bitEsfr : PhysAddr := 0x00F100
  deriving DecidableEq, Repr

/-- `PSW_LAYOUT` (R4, 10_state.md R27): the place of each bit a rule reads or writes, of the lowest bit of ILVL, and the
bits that are forced to 0. USR0 and HLDEN are plain bits, which no rule reads. Log entry 6. -/
structure PswLayout where
  n : BitVec 4 := 0
  c : BitVec 4 := 1
  v : BitVec 4 := 2
  z : BitVec 4 := 3
  e : BitVec 4 := 4
  mulip : BitVec 4 := 5
  ien : BitVec 4 := 11
  ilvl : BitVec 4 := 12
  reserved : Word := 0x0380
  deriving DecidableEq, Repr

/-- The places of the single bits. -/
def PswLayout.places (l : PswLayout) : List (BitVec 4) := [l.n, l.c, l.v, l.z, l.e, l.mulip, l.ien]

/-- A layout a PSW can have: the single bits lie apart, ILVL fits, and neither it nor a reserved bit covers another. -/
def PswLayout.wf (l : PswLayout) : Bool :=
  decide l.places.Nodup && decide (l.ilvl.toNat ≤ 12) && decide (l.reserved.extractLsb' l.ilvl.toNat 4 = 0) &&
    l.places.all fun p =>
      !l.reserved.getLsbD p.toNat && (decide (p.toNat < l.ilvl.toNat) || decide (l.ilvl.toNat + 4 ≤ p.toNat))

/-- What a class B event does (`MISALIGNED_WORD`, `ODD_TARGET`, `RESERVED_OPCODE`, `PROTECTED_MISMATCH`, R4, D7 to D10):
it is raised, the default, or the program is refused. Log entry 52. -/
inductive EventTreatment where
  | raise
  | refuse
  deriving DecidableEq, Repr

/-- `DIV_ROUNDING` (R4, D11): toward zero, or, the cautious setting, quotient and remainder are draws where the operands
have different signs and the division is inexact. -/
inductive DivRounding where
  | truncate
  | draw
  deriving DecidableEq, Repr

/-- `BITJUMP_EVC` (R4, D13): E, V, C after JBC and JNBS. -/
inductive BitJumpEvc where
  | cleared
  | unchanged
  | drawn
  deriving DecidableEq, Repr

/-- `RESET_STATE` (R4, 10_state.md R45): the reset values the source does not fix; the flags in PSW are 0 whatever `psw`
says (R44). Log entries 3 and 4. -/
structure ResetValues where
  ip : Word := 0x0000
  csp : Word := 0x0000
  cp : Word := 0xFC00
  sp : Word := 0xFC00
  stkov : Word := 0xFA00
  stkun : Word := 0xFC00
  psw : Word := 0x0000
  mdh : Word := 0x0000
  mdl : Word := 0x0000
  mdc : Word := 0x0000
  dpp0 : Word := 0x0000
  dpp1 : Word := 0x0001
  dpp2 : Word := 0x0002
  dpp3 : Word := 0x0003
  syscon : Word := 0x0000
  tfr : Word := 0x0000
  wdt : Word := 0x0000
  wdtcon : Word := 0x0000
  deriving DecidableEq, Repr

/-- One row of `HW_TRAP_TABLE`: the trap number and the TFR bit. -/
structure TrapRow where
  number : BitVec 7
  flag : Word
  deriving DecidableEq, Repr

/-- `HW_TRAP_TABLE` (R4, 60_exceptions.md R407). The row of reset is the reset value of (CSP, IP);
IllegalExternalBusAccess is never raised (R408). -/
structure TrapTable where
  nmi : TrapRow := ⟨0x02, 0x8000⟩
  stackOverflow : TrapRow := ⟨0x04, 0x4000⟩
  stackUnderflow : TrapRow := ⟨0x06, 0x2000⟩
  undefinedOpcode : TrapRow := ⟨0x0A, 0x0080⟩
  protectionFault : TrapRow := ⟨0x0A, 0x0008⟩
  illegalWordOperandAccess : TrapRow := ⟨0x0A, 0x0004⟩
  illegalInstructionAccess : TrapRow := ⟨0x0A, 0x0002⟩
  deriving DecidableEq, Repr

/-- `HW_TRAP_ENTRY` (R4, R408, R409): a raised class A or class B event is a sticky fault, or enters its handler. -/
inductive TrapEntry where
  | fault
  | modelled
  deriving DecidableEq, Repr

/-- What the machine does where the spec's sequential rules hold but the hardware may not follow them
(`PIPELINE_HAZARD_POLICY` R460, `SELF_MODIFYING_CODE` R81): refuse, or run by the sequential rules (R78). -/
inductive Policy where
  | refuse
  | sequential
  deriving DecidableEq, Repr

/-- What stands at an address of the platform's map (20_memory.md R64). -/
inductive RegionKind where
  | ram
  | rom
  | platform
  deriving DecidableEq, Repr

/-- One region of `MEMORY_MAP` (R64): the `size` addresses from `base` on. -/
structure Region where
  base : Nat
  size : Nat
  kind : RegionKind
  deriving DecidableEq, Repr

/-- The default `MEMORY_MAP`: the first four segments are RAM (the special function register areas of R64 are
laid over it by `classify`); everything above is absent. DESIGN CHOICE, log entry 8. -/
def defaultMap : List Region := [⟨0, 0x40000, .ram⟩]

/-- The parameters of R4. The defaults are R4's, with the map of log entry 8. No step changes them. -/
structure Config where
  device : Device := {}
  gprModel : GprModel := .memoryMapped
  sfrMap : List (Nat × CoreReg) := defaultSfrMap
  bases : Bases := {}
  psw : PswLayout := {}
  /-- `SGTDIS_BIT` (R4, D5). -/
  sgtdisBit : BitVec 4 := 11
  misalignedWord : EventTreatment := .raise
  oddTarget : EventTreatment := .raise
  reservedOpcode : EventTreatment := .raise
  protectedMismatch : EventTreatment := .raise
  divRounding : DivRounding := .truncate
  bitJumpEvc : BitJumpEvc := .cleared
  resetValues : ResetValues := {}
  trapTable : TrapTable := {}
  trapEntry : TrapEntry := .fault
  hazards : Policy := .refuse
  selfModifying : Policy := .refuse
  /-- `WDT_RATE` (R421, R423): none, or how far the counter moves in one step. -/
  wdtRate : Option Nat := none
  map : List Region := defaultMap
  deriving DecidableEq, Repr

/-- The `n`-th 16-bit draw (R12). -/
opaque Config.freeWord : Nat → BitVec 16

/-- The `n`-th one-bit draw (R12). -/
opaque Config.freeBit : Nat → Bool

/-- The bytes RAM holds after the reset numbered `n` (R450, R451). -/
opaque Config.freeRam : Nat → List Host.Cell

end Sys2Proof
end

