-- ==== Sys2Proof/Syntax.lean ====
section
/-! DEFINITION. The instructions: one constructor for each of the 230 rows of spec/opcode_table.json, its operand
fields at the widths of 30_encoding.md R102, R103. -/

namespace Sys2Proof

/-- The condition codes (44_call_jump_return.md R270); the name is the source's first name for the number. -/
inductive Cond where
  | uc | net | z | nz | v | nv | n | nn | c | nc | sgt | sle | slt | sge | ugt | ule
  deriving DecidableEq, Repr

/-- A bit operand (43_bit.md R240): the `bitoff` of its WORD and the bit's number. -/
structure BitAddr where
  word : Byte
  bit : BitVec 4
  deriving DecidableEq, Repr

/-- The 84 mnemonics (00_scope.md R2). -/
inductive Mnemonic where
  | add | addb | addc | addcb | sub | subb | subc | subcb | cmp | cmpb | xor | xorb | and | andb | or | orb
  | rol | ror | shl | shr | ashr | prior | atomic | extr | exts | extp | extsr | extpr | bfldl | bfldh | bcmp
  | bmovn | bmov | bor | band | bxor | jb | jnb | jbc | jnbs | bclr | bset | calla | jmpa | calli | jmpi
  | callr | jmpr | calls | jmps | pcall | ret | rets | reti | retp | trap | cmpi1 | cmpi2 | cmpd1 | cmpd2
  | neg | cpl | negb | cplb | diswdt | einit | idle | pwrdn | srst | srvwdt | nop | mul | mulu | div | divu
  | divl | divlu | mov | movb | movbs | movbsz | pop | push | scxt
  deriving DecidableEq, Repr

/-- The instructions, operands in the assembler's order. `n`, `m` number general registers (WORD or BYTE as the form
says, R115), `i` numbers R0 to R3, `r` is a `reg` field, `a` a `mem` or `caddr` field, `d` an immediate, `g` the
`irang2` field (the count minus one, R116), `sg` a segment, `p` a page, `q` a `bitoff`. -/
inductive Instr where
  /-- `00 nm` ADD Rw_n, Rw_m (R145). -/
  | addRwRw (n m : BitVec 4)
  /-- `08 n:10ii` ADD Rw_n, [Rw_i] (R145). -/
  | addRwInd (n : BitVec 4) (i : BitVec 2)
  /-- `08 n:11ii` ADD Rw_n, [Rw_i+] (R145). -/
  | addRwIndInc (n : BitVec 4) (i : BitVec 2)
  /-- `08 n:0###` ADD Rw_n, #data3 (R145). -/
  | addRwData3 (n : BitVec 4) (d : BitVec 3)
  /-- `06 RR ## ##` ADD reg, #data16 (R145). -/
  | addRegData16 (r : Byte) (d : Word)
  /-- `02 RR MM MM` ADD reg, mem (R145). -/
  | addRegMem (r : Byte) (a : Word)
  /-- `04 RR MM MM` ADD mem, reg (R145). -/
  | addMemReg (a : Word) (r : Byte)
  /-- `01 nm` ADDB Rb_n, Rb_m (R146). -/
  | addbRbRb (n m : BitVec 4)
  /-- `09 n:10ii` ADDB Rb_n, [Rw_i] (R146). -/
  | addbRbInd (n : BitVec 4) (i : BitVec 2)
  /-- `09 n:11ii` ADDB Rb_n, [Rw_i+] (R146). -/
  | addbRbIndInc (n : BitVec 4) (i : BitVec 2)
  /-- `09 n:0###` ADDB Rb_n, #data3 (R146). -/
  | addbRbData3 (n : BitVec 4) (d : BitVec 3)
  /-- `07 RR ## xx` ADDB reg, #data8 (R146). -/
  | addbRegData8 (r d : Byte)
  /-- `03 RR MM MM` ADDB reg, mem (R146). -/
  | addbRegMem (r : Byte) (a : Word)
  /-- `05 RR MM MM` ADDB mem, reg (R146). -/
  | addbMemReg (a : Word) (r : Byte)
  /-- `10 nm` ADDC Rw_n, Rw_m (R147). -/
  | addcRwRw (n m : BitVec 4)
  /-- `18 n:10ii` ADDC Rw_n, [Rw_i] (R147). -/
  | addcRwInd (n : BitVec 4) (i : BitVec 2)
  /-- `18 n:11ii` ADDC Rw_n, [Rw_i+] (R147). -/
  | addcRwIndInc (n : BitVec 4) (i : BitVec 2)
  /-- `18 n:0###` ADDC Rw_n, #data3 (R147). -/
  | addcRwData3 (n : BitVec 4) (d : BitVec 3)
  /-- `16 RR ## ##` ADDC reg, #data16 (R147). -/
  | addcRegData16 (r : Byte) (d : Word)
  /-- `12 RR MM MM` ADDC reg, mem (R147). -/
  | addcRegMem (r : Byte) (a : Word)
  /-- `14 RR MM MM` ADDC mem, reg (R147). -/
  | addcMemReg (a : Word) (r : Byte)
  /-- `11 nm` ADDCB Rb_n, Rb_m (R148). -/
  | addcbRbRb (n m : BitVec 4)
  /-- `19 n:10ii` ADDCB Rb_n, [Rw_i] (R148). -/
  | addcbRbInd (n : BitVec 4) (i : BitVec 2)
  /-- `19 n:11ii` ADDCB Rb_n, [Rw_i+] (R148). -/
  | addcbRbIndInc (n : BitVec 4) (i : BitVec 2)
  /-- `19 n:0###` ADDCB Rb_n, #data3 (R148). -/
  | addcbRbData3 (n : BitVec 4) (d : BitVec 3)
  /-- `17 RR ## xx` ADDCB reg, #data8 (R148). -/
  | addcbRegData8 (r d : Byte)
  /-- `13 RR MM MM` ADDCB reg, mem (R148). -/
  | addcbRegMem (r : Byte) (a : Word)
  /-- `15 RR MM MM` ADDCB mem, reg (R148). -/
  | addcbMemReg (a : Word) (r : Byte)
  /-- `20 nm` SUB Rw_n, Rw_m (R163). -/
  | subRwRw (n m : BitVec 4)
  /-- `28 n:10ii` SUB Rw_n, [Rw_i] (R163). -/
  | subRwInd (n : BitVec 4) (i : BitVec 2)
  /-- `28 n:11ii` SUB Rw_n, [Rw_i+] (R163). -/
  | subRwIndInc (n : BitVec 4) (i : BitVec 2)
  /-- `28 n:0###` SUB Rw_n, #data3 (R163). -/
  | subRwData3 (n : BitVec 4) (d : BitVec 3)
  /-- `26 RR ## ##` SUB reg, #data16 (R163). -/
  | subRegData16 (r : Byte) (d : Word)
  /-- `22 RR MM MM` SUB reg, mem (R163). -/
  | subRegMem (r : Byte) (a : Word)
  /-- `24 RR MM MM` SUB mem, reg (R163). -/
  | subMemReg (a : Word) (r : Byte)
  /-- `21 nm` SUBB Rb_n, Rb_m (R164). -/
  | subbRbRb (n m : BitVec 4)
  /-- `29 n:10ii` SUBB Rb_n, [Rw_i] (R164). -/
  | subbRbInd (n : BitVec 4) (i : BitVec 2)
  /-- `29 n:11ii` SUBB Rb_n, [Rw_i+] (R164). -/
  | subbRbIndInc (n : BitVec 4) (i : BitVec 2)
  /-- `29 n:0###` SUBB Rb_n, #data3 (R164). -/
  | subbRbData3 (n : BitVec 4) (d : BitVec 3)
  /-- `27 RR ## xx` SUBB reg, #data8 (R164). -/
  | subbRegData8 (r d : Byte)
  /-- `23 RR MM MM` SUBB reg, mem (R164). -/
  | subbRegMem (r : Byte) (a : Word)
  /-- `25 RR MM MM` SUBB mem, reg (R164). -/
  | subbMemReg (a : Word) (r : Byte)
  /-- `30 nm` SUBC Rw_n, Rw_m (R165). -/
  | subcRwRw (n m : BitVec 4)
  /-- `38 n:10ii` SUBC Rw_n, [Rw_i] (R165). -/
  | subcRwInd (n : BitVec 4) (i : BitVec 2)
  /-- `38 n:11ii` SUBC Rw_n, [Rw_i+] (R165). -/
  | subcRwIndInc (n : BitVec 4) (i : BitVec 2)
  /-- `38 n:0###` SUBC Rw_n, #data3 (R165). -/
  | subcRwData3 (n : BitVec 4) (d : BitVec 3)
  /-- `36 RR ## ##` SUBC reg, #data16 (R165). -/
  | subcRegData16 (r : Byte) (d : Word)
  /-- `32 RR MM MM` SUBC reg, mem (R165). -/
  | subcRegMem (r : Byte) (a : Word)
  /-- `34 RR MM MM` SUBC mem, reg (R165). -/
  | subcMemReg (a : Word) (r : Byte)
  /-- `31 nm` SUBCB Rb_n, Rb_m (R166). -/
  | subcbRbRb (n m : BitVec 4)
  /-- `39 n:10ii` SUBCB Rb_n, [Rw_i] (R166). -/
  | subcbRbInd (n : BitVec 4) (i : BitVec 2)
  /-- `39 n:11ii` SUBCB Rb_n, [Rw_i+] (R166). -/
  | subcbRbIndInc (n : BitVec 4) (i : BitVec 2)
  /-- `39 n:0###` SUBCB Rb_n, #data3 (R166). -/
  | subcbRbData3 (n : BitVec 4) (d : BitVec 3)
  /-- `37 RR ## xx` SUBCB reg, #data8 (R166). -/
  | subcbRegData8 (r d : Byte)
  /-- `33 RR MM MM` SUBCB reg, mem (R166). -/
  | subcbRegMem (r : Byte) (a : Word)
  /-- `35 RR MM MM` SUBCB mem, reg (R166). -/
  | subcbMemReg (a : Word) (r : Byte)
  /-- `40 nm` CMP Rw_n, Rw_m (R151). -/
  | cmpRwRw (n m : BitVec 4)
  /-- `48 n:10ii` CMP Rw_n, [Rw_i] (R151). -/
  | cmpRwInd (n : BitVec 4) (i : BitVec 2)
  /-- `48 n:11ii` CMP Rw_n, [Rw_i+] (R151). -/
  | cmpRwIndInc (n : BitVec 4) (i : BitVec 2)
  /-- `48 n:0###` CMP Rw_n, #data3 (R151). -/
  | cmpRwData3 (n : BitVec 4) (d : BitVec 3)
  /-- `46 RR ## ##` CMP reg, #data16 (R151). -/
  | cmpRegData16 (r : Byte) (d : Word)
  /-- `42 RR MM MM` CMP reg, mem (R151). -/
  | cmpRegMem (r : Byte) (a : Word)
  /-- `41 nm` CMPB Rb_n, Rb_m (R152). -/
  | cmpbRbRb (n m : BitVec 4)
  /-- `49 n:10ii` CMPB Rb_n, [Rw_i] (R152). -/
  | cmpbRbInd (n : BitVec 4) (i : BitVec 2)
  /-- `49 n:11ii` CMPB Rb_n, [Rw_i+] (R152). -/
  | cmpbRbIndInc (n : BitVec 4) (i : BitVec 2)
  /-- `49 n:0###` CMPB Rb_n, #data3 (R152). -/
  | cmpbRbData3 (n : BitVec 4) (d : BitVec 3)
  /-- `47 RR ## xx` CMPB reg, #data8 (R152). -/
  | cmpbRegData8 (r d : Byte)
  /-- `43 RR MM MM` CMPB reg, mem (R152). -/
  | cmpbRegMem (r : Byte) (a : Word)
  /-- `50 nm` XOR Rw_n, Rw_m (R167). -/
  | xorRwRw (n m : BitVec 4)
  /-- `58 n:10ii` XOR Rw_n, [Rw_i] (R167). -/
  | xorRwInd (n : BitVec 4) (i : BitVec 2)
  /-- `58 n:11ii` XOR Rw_n, [Rw_i+] (R167). -/
  | xorRwIndInc (n : BitVec 4) (i : BitVec 2)
  /-- `58 n:0###` XOR Rw_n, #data3 (R167). -/
  | xorRwData3 (n : BitVec 4) (d : BitVec 3)
  /-- `56 RR ## ##` XOR reg, #data16 (R167). -/
  | xorRegData16 (r : Byte) (d : Word)
  /-- `52 RR MM MM` XOR reg, mem (R167). -/
  | xorRegMem (r : Byte) (a : Word)
  /-- `54 RR MM MM` XOR mem, reg (R167). -/
  | xorMemReg (a : Word) (r : Byte)
  /-- `51 nm` XORB Rb_n, Rb_m (R168). -/
  | xorbRbRb (n m : BitVec 4)
  /-- `59 n:10ii` XORB Rb_n, [Rw_i] (R168). -/
  | xorbRbInd (n : BitVec 4) (i : BitVec 2)
  /-- `59 n:11ii` XORB Rb_n, [Rw_i+] (R168). -/
  | xorbRbIndInc (n : BitVec 4) (i : BitVec 2)
  /-- `59 n:0###` XORB Rb_n, #data3 (R168). -/
  | xorbRbData3 (n : BitVec 4) (d : BitVec 3)
  /-- `57 RR ## xx` XORB reg, #data8 (R168). -/
  | xorbRegData8 (r d : Byte)
  /-- `53 RR MM MM` XORB reg, mem (R168). -/
  | xorbRegMem (r : Byte) (a : Word)
  /-- `55 RR MM MM` XORB mem, reg (R168). -/
  | xorbMemReg (a : Word) (r : Byte)
  /-- `60 nm` AND Rw_n, Rw_m (R149). -/
  | andRwRw (n m : BitVec 4)
  /-- `68 n:10ii` AND Rw_n, [Rw_i] (R149). -/
  | andRwInd (n : BitVec 4) (i : BitVec 2)
  /-- `68 n:11ii` AND Rw_n, [Rw_i+] (R149). -/
  | andRwIndInc (n : BitVec 4) (i : BitVec 2)
  /-- `68 n:0###` AND Rw_n, #data3 (R149). -/
  | andRwData3 (n : BitVec 4) (d : BitVec 3)
  /-- `66 RR ## ##` AND reg, #data16 (R149). -/
  | andRegData16 (r : Byte) (d : Word)
  /-- `62 RR MM MM` AND reg, mem (R149). -/
  | andRegMem (r : Byte) (a : Word)
  /-- `64 RR MM MM` AND mem, reg (R149). -/
  | andMemReg (a : Word) (r : Byte)
  /-- `61 nm` ANDB Rb_n, Rb_m (R150). -/
  | andbRbRb (n m : BitVec 4)
  /-- `69 n:10ii` ANDB Rb_n, [Rw_i] (R150). -/
  | andbRbInd (n : BitVec 4) (i : BitVec 2)
  /-- `69 n:11ii` ANDB Rb_n, [Rw_i+] (R150). -/
  | andbRbIndInc (n : BitVec 4) (i : BitVec 2)
  /-- `69 n:0###` ANDB Rb_n, #data3 (R150). -/
  | andbRbData3 (n : BitVec 4) (d : BitVec 3)
  /-- `67 RR ## xx` ANDB reg, #data8 (R150). -/
  | andbRegData8 (r d : Byte)
  /-- `63 RR MM MM` ANDB reg, mem (R150). -/
  | andbRegMem (r : Byte) (a : Word)
  /-- `65 RR MM MM` ANDB mem, reg (R150). -/
  | andbMemReg (a : Word) (r : Byte)
  /-- `70 nm` OR Rw_n, Rw_m (R161). -/
  | orRwRw (n m : BitVec 4)
  /-- `78 n:10ii` OR Rw_n, [Rw_i] (R161). -/
  | orRwInd (n : BitVec 4) (i : BitVec 2)
  /-- `78 n:11ii` OR Rw_n, [Rw_i+] (R161). -/
  | orRwIndInc (n : BitVec 4) (i : BitVec 2)
  /-- `78 n:0###` OR Rw_n, #data3 (R161). -/
  | orRwData3 (n : BitVec 4) (d : BitVec 3)
  /-- `76 RR ## ##` OR reg, #data16 (R161). -/
  | orRegData16 (r : Byte) (d : Word)
  /-- `72 RR MM MM` OR reg, mem (R161). -/
  | orRegMem (r : Byte) (a : Word)
  /-- `74 RR MM MM` OR mem, reg (R161). -/
  | orMemReg (a : Word) (r : Byte)
  /-- `71 nm` ORB Rb_n, Rb_m (R162). -/
  | orbRbRb (n m : BitVec 4)
  /-- `79 n:10ii` ORB Rb_n, [Rw_i] (R162). -/
  | orbRbInd (n : BitVec 4) (i : BitVec 2)
  /-- `79 n:11ii` ORB Rb_n, [Rw_i+] (R162). -/
  | orbRbIndInc (n : BitVec 4) (i : BitVec 2)
  /-- `79 n:0###` ORB Rb_n, #data3 (R162). -/
  | orbRbData3 (n : BitVec 4) (d : BitVec 3)
  /-- `77 RR ## xx` ORB reg, #data8 (R162). -/
  | orbRegData8 (r d : Byte)
  /-- `73 RR MM MM` ORB reg, mem (R162). -/
  | orbRegMem (r : Byte) (a : Word)
  /-- `75 RR MM MM` ORB mem, reg (R162). -/
  | orbMemReg (a : Word) (r : Byte)
  /-- `0C nm` ROL Rw_n, Rw_m (R203). -/
  | rolRwRw (n m : BitVec 4)
  /-- `1C #n` ROL Rw_n, #data4 (R203). -/
  | rolRwData4 (n d : BitVec 4)
  /-- `2C nm` ROR Rw_n, Rw_m (R204). -/
  | rorRwRw (n m : BitVec 4)
  /-- `3C #n` ROR Rw_n, #data4 (R204). -/
  | rorRwData4 (n d : BitVec 4)
  /-- `4C nm` SHL Rw_n, Rw_m (R205). -/
  | shlRwRw (n m : BitVec 4)
  /-- `5C #n` SHL Rw_n, #data4 (R205). -/
  | shlRwData4 (n d : BitVec 4)
  /-- `6C nm` SHR Rw_n, Rw_m (R206). -/
  | shrRwRw (n m : BitVec 4)
  /-- `7C #n` SHR Rw_n, #data4 (R206). -/
  | shrRwData4 (n d : BitVec 4)
  /-- `AC nm` ASHR Rw_n, Rw_m (R201). -/
  | ashrRwRw (n m : BitVec 4)
  /-- `BC #n` ASHR Rw_n, #data4 (R201). -/
  | ashrRwData4 (n d : BitVec 4)
  /-- `2B nm` PRIOR Rw_n, Rw_m (R202). -/
  | priorRwRw (n m : BitVec 4)
  /-- `D1 :00##-0` ATOMIC #irang2 (R221). -/
  | atomic (g : BitVec 2)
  /-- `D1 :10##-0` EXTR #irang2 (R222). -/
  | extr (g : BitVec 2)
  /-- `DC :00##-m` EXTS Rw_m, #irang2 (R225). -/
  | extsRw (m : BitVec 4) (g : BitVec 2)
  /-- `D7 :00##-0 SS 00` EXTS #seg8, #irang2 (R225). -/
  | extsSeg (sg : Byte) (g : BitVec 2)
  /-- `DC :01##-m` EXTP Rw_m, #irang2 (R223). -/
  | extpRw (m : BitVec 4) (g : BitVec 2)
  /-- `D7 :01##-0 PP 0:00PP` EXTP #pag10, #irang2 (R223). -/
  | extpPag (p : BitVec 10) (g : BitVec 2)
  /-- `DC :10##-m` EXTSR Rw_m, #irang2 (R226). -/
  | extsrRw (m : BitVec 4) (g : BitVec 2)
  /-- `D7 :10##-0 SS 00` EXTSR #seg8, #irang2 (R226). -/
  | extsrSeg (sg : Byte) (g : BitVec 2)
  /-- `DC :11##-m` EXTPR Rw_m, #irang2 (R224). -/
  | extprRw (m : BitVec 4) (g : BitVec 2)
  /-- `D7 :11##-0 PP 0:00PP` EXTPR #pag10, #irang2 (R224). -/
  | extprPag (p : BitVec 10) (g : BitVec 2)
  /-- `0A QQ @@ ##` BFLDL bitoff_Q, #mask8, #data8 (R247). -/
  | bfldl (q mask d : Byte)
  /-- `1A QQ ## @@` BFLDH bitoff_Q, #mask8, #data8 (R246). -/
  | bfldh (q mask d : Byte)
  /-- `2A QQ ZZ qz` BCMP bitaddr_Z.z, bitaddr_Q.q (R245). -/
  | bcmp (dst src : BitAddr)
  /-- `3A QQ ZZ qz` BMOVN bitaddr_Z.z, bitaddr_Q.q (R249). -/
  | bmovn (dst src : BitAddr)
  /-- `4A QQ ZZ qz` BMOV bitaddr_Z.z, bitaddr_Q.q (R248). -/
  | bmov (dst src : BitAddr)
  /-- `5A QQ ZZ qz` BOR bitaddr_Z.z, bitaddr_Q.q (R250). -/
  | bor (dst src : BitAddr)
  /-- `6A QQ ZZ qz` BAND bitaddr_Z.z, bitaddr_Q.q (R243). -/
  | band (dst src : BitAddr)
  /-- `7A QQ ZZ qz` BXOR bitaddr_Z.z, bitaddr_Q.q (R252). -/
  | bxor (dst src : BitAddr)
  /-- `8A QQ rr q0` JB bitaddr_Q.q, rel (R276). -/
  | jb (b : BitAddr) (rel : Byte)
  /-- `9A QQ rr q0` JNB bitaddr_Q.q, rel (R282). -/
  | jnb (b : BitAddr) (rel : Byte)
  /-- `AA QQ rr q0` JBC bitaddr_Q.q, rel (R277). -/
  | jbc (b : BitAddr) (rel : Byte)
  /-- `BA QQ rr q0` JNBS bitaddr_Q.q, rel (R283). -/
  | jnbs (b : BitAddr) (rel : Byte)
  /-- `qE QQ` BCLR bitaddr_Q.q (R244). -/
  | bclr (b : BitAddr)
  /-- `qF QQ` BSET bitaddr_Q.q (R251). -/
  | bset (b : BitAddr)
  /-- `CA c0 MM MM` CALLA cc, caddr (R272). -/
  | calla (cc : Cond) (a : Word)
  /-- `EA c0 MM MM` JMPA cc, caddr (R278). -/
  | jmpa (cc : Cond) (a : Word)
  /-- `AB cn` CALLI cc, [Rw_n] (R273). -/
  | calli (cc : Cond) (n : BitVec 4)
  /-- `9C cn` JMPI cc, [Rw_n] (R279). -/
  | jmpi (cc : Cond) (n : BitVec 4)
  /-- `BB rr` CALLR rel (R274). -/
  | callr (rel : Byte)
  /-- `cD rr` JMPR cc, rel (R280). -/
  | jmpr (cc : Cond) (rel : Byte)
  /-- `DA SS MM MM` CALLS seg, caddr (R275). -/
  | calls (sg : Byte) (a : Word)
  /-- `FA SS MM MM` JMPS seg, caddr (R281). -/
  | jmps (sg : Byte) (a : Word)
  /-- `E2 RR MM MM` PCALL reg, caddr (R284). -/
  | pcall (r : Byte) (a : Word)
  /-- `CB 00` RET  (R285). -/
  | ret
  /-- `DB 00` RETS  (R288). -/
  | rets
  /-- `FB 88` RETI  (R286). -/
  | reti
  /-- `EB RR` RETP reg (R287). -/
  | retp (r : Byte)
  /-- `9B t:ttt0` TRAP #trap7 (R289). -/
  | trap (t : BitVec 7)
  /-- `80 #n` CMPI1 Rw_n, #data4 (R155). -/
  | cmpi1RwData4 (n d : BitVec 4)
  /-- `86 Fn ## ##` CMPI1 Rw_n, #data16 (R155). -/
  | cmpi1RwData16 (n : BitVec 4) (d : Word)
  /-- `82 Fn MM MM` CMPI1 Rw_n, mem (R155). -/
  | cmpi1RwMem (n : BitVec 4) (a : Word)
  /-- `90 #n` CMPI2 Rw_n, #data4 (R156). -/
  | cmpi2RwData4 (n d : BitVec 4)
  /-- `96 Fn ## ##` CMPI2 Rw_n, #data16 (R156). -/
  | cmpi2RwData16 (n : BitVec 4) (d : Word)
  /-- `92 Fn MM MM` CMPI2 Rw_n, mem (R156). -/
  | cmpi2RwMem (n : BitVec 4) (a : Word)
  /-- `A0 #n` CMPD1 Rw_n, #data4 (R153). -/
  | cmpd1RwData4 (n d : BitVec 4)
  /-- `A6 Fn ## ##` CMPD1 Rw_n, #data16 (R153). -/
  | cmpd1RwData16 (n : BitVec 4) (d : Word)
  /-- `A2 Fn MM MM` CMPD1 Rw_n, mem (R153). -/
  | cmpd1RwMem (n : BitVec 4) (a : Word)
  /-- `B0 #n` CMPD2 Rw_n, #data4 (R154). -/
  | cmpd2RwData4 (n d : BitVec 4)
  /-- `B6 Fn ## ##` CMPD2 Rw_n, #data16 (R154). -/
  | cmpd2RwData16 (n : BitVec 4) (d : Word)
  /-- `B2 Fn MM MM` CMPD2 Rw_n, mem (R154). -/
  | cmpd2RwMem (n : BitVec 4) (a : Word)
  /-- `81 n0` NEG Rw_n (R159). -/
  | neg (n : BitVec 4)
  /-- `91 n0` CPL Rw_n (R157). -/
  | cpl (n : BitVec 4)
  /-- `A1 n0` NEGB Rb_n (R160). -/
  | negb (n : BitVec 4)
  /-- `B1 n0` CPLB Rb_n (R158). -/
  | cplb (n : BitVec 4)
  /-- `A5 5A A5 A5` DISWDT  (R311). -/
  | diswdt
  /-- `B5 4A B5 B5` EINIT  (R312). -/
  | einit
  /-- `87 78 87 87` IDLE  (R313). -/
  | idle
  /-- `97 68 97 97` PWRDN  (R315). -/
  | pwrdn
  /-- `B7 48 B7 B7` SRST  (R316). -/
  | srst
  /-- `A7 58 A7 A7` SRVWDT  (R317). -/
  | srvwdt
  /-- `CC 00` NOP  (R314). -/
  | nop
  /-- `0B nm` MUL Rw_n, Rw_m (R335). -/
  | mulRwRw (n m : BitVec 4)
  /-- `1B nm` MULU Rw_n, Rw_m (R336). -/
  | muluRwRw (n m : BitVec 4)
  /-- `4B nn` DIV Rw_n (R331). -/
  | div (n : BitVec 4)
  /-- `5B nn` DIVU Rw_n (R334). -/
  | divu (n : BitVec 4)
  /-- `6B nn` DIVL Rw_n (R332). -/
  | divl (n : BitVec 4)
  /-- `7B nn` DIVLU Rw_n (R333). -/
  | divlu (n : BitVec 4)
  /-- `F0 nm` MOV Rw_n, Rw_m (R351). -/
  | movRwRw (n m : BitVec 4)
  /-- `E0 #n` MOV Rw_n, #data4 (R351). -/
  | movRwData4 (n d : BitVec 4)
  /-- `E6 RR ## ##` MOV reg, #data16 (R351). -/
  | movRegData16 (r : Byte) (d : Word)
  /-- `A8 nm` MOV Rw_n, [Rw_m] (R351). -/
  | movRwInd (n m : BitVec 4)
  /-- `98 nm` MOV Rw_n, [Rw_m+] (R351). -/
  | movRwIndInc (n m : BitVec 4)
  /-- `B8 nm` MOV [Rw_m], Rw_n (R351). -/
  | movIndRw (m n : BitVec 4)
  /-- `88 nm` MOV [-Rw_m], Rw_n (R351). -/
  | movIndDecRw (m n : BitVec 4)
  /-- `C8 nm` MOV [Rw_n], [Rw_m] (R351). -/
  | movIndInd (n m : BitVec 4)
  /-- `D8 nm` MOV [Rw_n+], [Rw_m] (R351). -/
  | movIndIncInd (n m : BitVec 4)
  /-- `E8 nm` MOV [Rw_n], [Rw_m+] (R351). -/
  | movIndIndInc (n m : BitVec 4)
  /-- `D4 nm ## ##` MOV Rw_n, [Rw_m+#data16] (R351). -/
  | movRwIndDisp (n m : BitVec 4) (d : Word)
  /-- `C4 nm ## ##` MOV [Rw_m+#data16], Rw_n (R351). -/
  | movIndDispRw (m : BitVec 4) (d : Word) (n : BitVec 4)
  /-- `84 0n MM MM` MOV [Rw_n], mem (R351). -/
  | movIndMem (n : BitVec 4) (a : Word)
  /-- `94 0n MM MM` MOV mem, [Rw_n] (R351). -/
  | movMemInd (a : Word) (n : BitVec 4)
  /-- `F2 RR MM MM` MOV reg, mem (R351). -/
  | movRegMem (r : Byte) (a : Word)
  /-- `F6 RR MM MM` MOV mem, reg (R351). -/
  | movMemReg (a : Word) (r : Byte)
  /-- `F1 nm` MOVB Rb_n, Rb_m (R352). -/
  | movbRbRb (n m : BitVec 4)
  /-- `E1 #n` MOVB Rb_n, #data4 (R352). -/
  | movbRbData4 (n d : BitVec 4)
  /-- `E7 RR ## xx` MOVB reg, #data8 (R352). -/
  | movbRegData8 (r d : Byte)
  /-- `A9 nm` MOVB Rb_n, [Rw_m] (R352). -/
  | movbRbInd (n m : BitVec 4)
  /-- `99 nm` MOVB Rb_n, [Rw_m+] (R352). -/
  | movbRbIndInc (n m : BitVec 4)
  /-- `B9 nm` MOVB [Rw_m], Rb_n (R352). -/
  | movbIndRb (m n : BitVec 4)
  /-- `89 nm` MOVB [-Rw_m], Rb_n (R352). -/
  | movbIndDecRb (m n : BitVec 4)
  /-- `C9 nm` MOVB [Rw_n], [Rw_m] (R352). -/
  | movbIndInd (n m : BitVec 4)
  /-- `D9 nm` MOVB [Rw_n+], [Rw_m] (R352). -/
  | movbIndIncInd (n m : BitVec 4)
  /-- `E9 nm` MOVB [Rw_n], [Rw_m+] (R352). -/
  | movbIndIndInc (n m : BitVec 4)
  /-- `F4 nm ## ##` MOVB Rb_n, [Rw_m+#data16] (R352). -/
  | movbRbIndDisp (n m : BitVec 4) (d : Word)
  /-- `E4 nm ## ##` MOVB [Rw_m+#data16], Rb_n (R352). -/
  | movbIndDispRb (m : BitVec 4) (d : Word) (n : BitVec 4)
  /-- `A4 0n MM MM` MOVB [Rw_n], mem (R352). -/
  | movbIndMem (n : BitVec 4) (a : Word)
  /-- `B4 0n MM MM` MOVB mem, [Rw_n] (R352). -/
  | movbMemInd (a : Word) (n : BitVec 4)
  /-- `F3 RR MM MM` MOVB reg, mem (R352). -/
  | movbRegMem (r : Byte) (a : Word)
  /-- `F7 RR MM MM` MOVB mem, reg (R352). -/
  | movbMemReg (a : Word) (r : Byte)
  /-- `D0 mn` MOVBS Rw_n, Rb_m (R353). -/
  | movbsRwRb (n m : BitVec 4)
  /-- `D2 RR MM MM` MOVBS reg, mem (R353). -/
  | movbsRegMem (r : Byte) (a : Word)
  /-- `D5 RR MM MM` MOVBS mem, reg (R353). -/
  | movbsMemReg (a : Word) (r : Byte)
  /-- `C0 mn` MOVBSZ Rw_n, Rb_m (R354). -/
  | movbszRwRb (n m : BitVec 4)
  /-- `C2 RR MM MM` MOVBSZ reg, mem (R354). -/
  | movbszRegMem (r : Byte) (a : Word)
  /-- `C5 RR MM MM` MOVBSZ mem, reg (R354). -/
  | movbszMemReg (a : Word) (r : Byte)
  /-- `FC RR` POP reg (R355). -/
  | pop (r : Byte)
  /-- `EC RR` PUSH reg (R356). -/
  | push (r : Byte)
  /-- `C6 RR ## ##` SCXT reg, #data16 (R357). -/
  | scxtRegData16 (r : Byte) (d : Word)
  /-- `D6 RR MM MM` SCXT reg, mem (R357). -/
  | scxtRegMem (r : Byte) (a : Word)
  deriving DecidableEq, Repr

/-- The mnemonic of an instruction. -/
def Instr.mnemonic : Instr → Mnemonic
  | .addRwRw _ _ => .add
  | .addRwInd _ _ => .add
  | .addRwIndInc _ _ => .add
  | .addRwData3 _ _ => .add
  | .addRegData16 _ _ => .add
  | .addRegMem _ _ => .add
  | .addMemReg _ _ => .add
  | .addbRbRb _ _ => .addb
  | .addbRbInd _ _ => .addb
  | .addbRbIndInc _ _ => .addb
  | .addbRbData3 _ _ => .addb
  | .addbRegData8 _ _ => .addb
  | .addbRegMem _ _ => .addb
  | .addbMemReg _ _ => .addb
  | .addcRwRw _ _ => .addc
  | .addcRwInd _ _ => .addc
  | .addcRwIndInc _ _ => .addc
  | .addcRwData3 _ _ => .addc
  | .addcRegData16 _ _ => .addc
  | .addcRegMem _ _ => .addc
  | .addcMemReg _ _ => .addc
  | .addcbRbRb _ _ => .addcb
  | .addcbRbInd _ _ => .addcb
  | .addcbRbIndInc _ _ => .addcb
  | .addcbRbData3 _ _ => .addcb
  | .addcbRegData8 _ _ => .addcb
  | .addcbRegMem _ _ => .addcb
  | .addcbMemReg _ _ => .addcb
  | .subRwRw _ _ => .sub
  | .subRwInd _ _ => .sub
  | .subRwIndInc _ _ => .sub
  | .subRwData3 _ _ => .sub
  | .subRegData16 _ _ => .sub
  | .subRegMem _ _ => .sub
  | .subMemReg _ _ => .sub
  | .subbRbRb _ _ => .subb
  | .subbRbInd _ _ => .subb
  | .subbRbIndInc _ _ => .subb
  | .subbRbData3 _ _ => .subb
  | .subbRegData8 _ _ => .subb
  | .subbRegMem _ _ => .subb
  | .subbMemReg _ _ => .subb
  | .subcRwRw _ _ => .subc
  | .subcRwInd _ _ => .subc
  | .subcRwIndInc _ _ => .subc
  | .subcRwData3 _ _ => .subc
  | .subcRegData16 _ _ => .subc
  | .subcRegMem _ _ => .subc
  | .subcMemReg _ _ => .subc
  | .subcbRbRb _ _ => .subcb
  | .subcbRbInd _ _ => .subcb
  | .subcbRbIndInc _ _ => .subcb
  | .subcbRbData3 _ _ => .subcb
  | .subcbRegData8 _ _ => .subcb
  | .subcbRegMem _ _ => .subcb
  | .subcbMemReg _ _ => .subcb
  | .cmpRwRw _ _ => .cmp
  | .cmpRwInd _ _ => .cmp
  | .cmpRwIndInc _ _ => .cmp
  | .cmpRwData3 _ _ => .cmp
  | .cmpRegData16 _ _ => .cmp
  | .cmpRegMem _ _ => .cmp
  | .cmpbRbRb _ _ => .cmpb
  | .cmpbRbInd _ _ => .cmpb
  | .cmpbRbIndInc _ _ => .cmpb
  | .cmpbRbData3 _ _ => .cmpb
  | .cmpbRegData8 _ _ => .cmpb
  | .cmpbRegMem _ _ => .cmpb
  | .xorRwRw _ _ => .xor
  | .xorRwInd _ _ => .xor
  | .xorRwIndInc _ _ => .xor
  | .xorRwData3 _ _ => .xor
  | .xorRegData16 _ _ => .xor
  | .xorRegMem _ _ => .xor
  | .xorMemReg _ _ => .xor
  | .xorbRbRb _ _ => .xorb
  | .xorbRbInd _ _ => .xorb
  | .xorbRbIndInc _ _ => .xorb
  | .xorbRbData3 _ _ => .xorb
  | .xorbRegData8 _ _ => .xorb
  | .xorbRegMem _ _ => .xorb
  | .xorbMemReg _ _ => .xorb
  | .andRwRw _ _ => .and
  | .andRwInd _ _ => .and
  | .andRwIndInc _ _ => .and
  | .andRwData3 _ _ => .and
  | .andRegData16 _ _ => .and
  | .andRegMem _ _ => .and
  | .andMemReg _ _ => .and
  | .andbRbRb _ _ => .andb
  | .andbRbInd _ _ => .andb
  | .andbRbIndInc _ _ => .andb
  | .andbRbData3 _ _ => .andb
  | .andbRegData8 _ _ => .andb
  | .andbRegMem _ _ => .andb
  | .andbMemReg _ _ => .andb
  | .orRwRw _ _ => .or
  | .orRwInd _ _ => .or
  | .orRwIndInc _ _ => .or
  | .orRwData3 _ _ => .or
  | .orRegData16 _ _ => .or
  | .orRegMem _ _ => .or
  | .orMemReg _ _ => .or
  | .orbRbRb _ _ => .orb
  | .orbRbInd _ _ => .orb
  | .orbRbIndInc _ _ => .orb
  | .orbRbData3 _ _ => .orb
  | .orbRegData8 _ _ => .orb
  | .orbRegMem _ _ => .orb
  | .orbMemReg _ _ => .orb
  | .rolRwRw _ _ => .rol
  | .rolRwData4 _ _ => .rol
  | .rorRwRw _ _ => .ror
  | .rorRwData4 _ _ => .ror
  | .shlRwRw _ _ => .shl
  | .shlRwData4 _ _ => .shl
  | .shrRwRw _ _ => .shr
  | .shrRwData4 _ _ => .shr
  | .ashrRwRw _ _ => .ashr
  | .ashrRwData4 _ _ => .ashr
  | .priorRwRw _ _ => .prior
  | .atomic _ => .atomic
  | .extr _ => .extr
  | .extsRw _ _ => .exts
  | .extsSeg _ _ => .exts
  | .extpRw _ _ => .extp
  | .extpPag _ _ => .extp
  | .extsrRw _ _ => .extsr
  | .extsrSeg _ _ => .extsr
  | .extprRw _ _ => .extpr
  | .extprPag _ _ => .extpr
  | .bfldl _ _ _ => .bfldl
  | .bfldh _ _ _ => .bfldh
  | .bcmp _ _ => .bcmp
  | .bmovn _ _ => .bmovn
  | .bmov _ _ => .bmov
  | .bor _ _ => .bor
  | .band _ _ => .band
  | .bxor _ _ => .bxor
  | .jb _ _ => .jb
  | .jnb _ _ => .jnb
  | .jbc _ _ => .jbc
  | .jnbs _ _ => .jnbs
  | .bclr _ => .bclr
  | .bset _ => .bset
  | .calla _ _ => .calla
  | .jmpa _ _ => .jmpa
  | .calli _ _ => .calli
  | .jmpi _ _ => .jmpi
  | .callr _ => .callr
  | .jmpr _ _ => .jmpr
  | .calls _ _ => .calls
  | .jmps _ _ => .jmps
  | .pcall _ _ => .pcall
  | .ret => .ret
  | .rets => .rets
  | .reti => .reti
  | .retp _ => .retp
  | .trap _ => .trap
  | .cmpi1RwData4 _ _ => .cmpi1
  | .cmpi1RwData16 _ _ => .cmpi1
  | .cmpi1RwMem _ _ => .cmpi1
  | .cmpi2RwData4 _ _ => .cmpi2
  | .cmpi2RwData16 _ _ => .cmpi2
  | .cmpi2RwMem _ _ => .cmpi2
  | .cmpd1RwData4 _ _ => .cmpd1
  | .cmpd1RwData16 _ _ => .cmpd1
  | .cmpd1RwMem _ _ => .cmpd1
  | .cmpd2RwData4 _ _ => .cmpd2
  | .cmpd2RwData16 _ _ => .cmpd2
  | .cmpd2RwMem _ _ => .cmpd2
  | .neg _ => .neg
  | .cpl _ => .cpl
  | .negb _ => .negb
  | .cplb _ => .cplb
  | .diswdt => .diswdt
  | .einit => .einit
  | .idle => .idle
  | .pwrdn => .pwrdn
  | .srst => .srst
  | .srvwdt => .srvwdt
  | .nop => .nop
  | .mulRwRw _ _ => .mul
  | .muluRwRw _ _ => .mulu
  | .div _ => .div
  | .divu _ => .divu
  | .divl _ => .divl
  | .divlu _ => .divlu
  | .movRwRw _ _ => .mov
  | .movRwData4 _ _ => .mov
  | .movRegData16 _ _ => .mov
  | .movRwInd _ _ => .mov
  | .movRwIndInc _ _ => .mov
  | .movIndRw _ _ => .mov
  | .movIndDecRw _ _ => .mov
  | .movIndInd _ _ => .mov
  | .movIndIncInd _ _ => .mov
  | .movIndIndInc _ _ => .mov
  | .movRwIndDisp _ _ _ => .mov
  | .movIndDispRw _ _ _ => .mov
  | .movIndMem _ _ => .mov
  | .movMemInd _ _ => .mov
  | .movRegMem _ _ => .mov
  | .movMemReg _ _ => .mov
  | .movbRbRb _ _ => .movb
  | .movbRbData4 _ _ => .movb
  | .movbRegData8 _ _ => .movb
  | .movbRbInd _ _ => .movb
  | .movbRbIndInc _ _ => .movb
  | .movbIndRb _ _ => .movb
  | .movbIndDecRb _ _ => .movb
  | .movbIndInd _ _ => .movb
  | .movbIndIncInd _ _ => .movb
  | .movbIndIndInc _ _ => .movb
  | .movbRbIndDisp _ _ _ => .movb
  | .movbIndDispRb _ _ _ => .movb
  | .movbIndMem _ _ => .movb
  | .movbMemInd _ _ => .movb
  | .movbRegMem _ _ => .movb
  | .movbMemReg _ _ => .movb
  | .movbsRwRb _ _ => .movbs
  | .movbsRegMem _ _ => .movbs
  | .movbsMemReg _ _ => .movbs
  | .movbszRwRb _ _ => .movbsz
  | .movbszRegMem _ _ => .movbsz
  | .movbszMemReg _ _ => .movbsz
  | .pop _ => .pop
  | .push _ => .push
  | .scxtRegData16 _ _ => .scxt
  | .scxtRegMem _ _ => .scxt

/-- The length in bytes, the "Размер" of the format tables (30_encoding.md R100). -/
def Instr.length : Instr → Nat
  | .addRwRw _ _ => 2
  | .addRwInd _ _ => 2
  | .addRwIndInc _ _ => 2
  | .addRwData3 _ _ => 2
  | .addRegData16 _ _ => 4
  | .addRegMem _ _ => 4
  | .addMemReg _ _ => 4
  | .addbRbRb _ _ => 2
  | .addbRbInd _ _ => 2
  | .addbRbIndInc _ _ => 2
  | .addbRbData3 _ _ => 2
  | .addbRegData8 _ _ => 4
  | .addbRegMem _ _ => 4
  | .addbMemReg _ _ => 4
  | .addcRwRw _ _ => 2
  | .addcRwInd _ _ => 2
  | .addcRwIndInc _ _ => 2
  | .addcRwData3 _ _ => 2
  | .addcRegData16 _ _ => 4
  | .addcRegMem _ _ => 4
  | .addcMemReg _ _ => 4
  | .addcbRbRb _ _ => 2
  | .addcbRbInd _ _ => 2
  | .addcbRbIndInc _ _ => 2
  | .addcbRbData3 _ _ => 2
  | .addcbRegData8 _ _ => 4
  | .addcbRegMem _ _ => 4
  | .addcbMemReg _ _ => 4
  | .subRwRw _ _ => 2
  | .subRwInd _ _ => 2
  | .subRwIndInc _ _ => 2
  | .subRwData3 _ _ => 2
  | .subRegData16 _ _ => 4
  | .subRegMem _ _ => 4
  | .subMemReg _ _ => 4
  | .subbRbRb _ _ => 2
  | .subbRbInd _ _ => 2
  | .subbRbIndInc _ _ => 2
  | .subbRbData3 _ _ => 2
  | .subbRegData8 _ _ => 4
  | .subbRegMem _ _ => 4
  | .subbMemReg _ _ => 4
  | .subcRwRw _ _ => 2
  | .subcRwInd _ _ => 2
  | .subcRwIndInc _ _ => 2
  | .subcRwData3 _ _ => 2
  | .subcRegData16 _ _ => 4
  | .subcRegMem _ _ => 4
  | .subcMemReg _ _ => 4
  | .subcbRbRb _ _ => 2
  | .subcbRbInd _ _ => 2
  | .subcbRbIndInc _ _ => 2
  | .subcbRbData3 _ _ => 2
  | .subcbRegData8 _ _ => 4
  | .subcbRegMem _ _ => 4
  | .subcbMemReg _ _ => 4
  | .cmpRwRw _ _ => 2
  | .cmpRwInd _ _ => 2
  | .cmpRwIndInc _ _ => 2
  | .cmpRwData3 _ _ => 2
  | .cmpRegData16 _ _ => 4
  | .cmpRegMem _ _ => 4
  | .cmpbRbRb _ _ => 2
  | .cmpbRbInd _ _ => 2
  | .cmpbRbIndInc _ _ => 2
  | .cmpbRbData3 _ _ => 2
  | .cmpbRegData8 _ _ => 4
  | .cmpbRegMem _ _ => 4
  | .xorRwRw _ _ => 2
  | .xorRwInd _ _ => 2
  | .xorRwIndInc _ _ => 2
  | .xorRwData3 _ _ => 2
  | .xorRegData16 _ _ => 4
  | .xorRegMem _ _ => 4
  | .xorMemReg _ _ => 4
  | .xorbRbRb _ _ => 2
  | .xorbRbInd _ _ => 2
  | .xorbRbIndInc _ _ => 2
  | .xorbRbData3 _ _ => 2
  | .xorbRegData8 _ _ => 4
  | .xorbRegMem _ _ => 4
  | .xorbMemReg _ _ => 4
  | .andRwRw _ _ => 2
  | .andRwInd _ _ => 2
  | .andRwIndInc _ _ => 2
  | .andRwData3 _ _ => 2
  | .andRegData16 _ _ => 4
  | .andRegMem _ _ => 4
  | .andMemReg _ _ => 4
  | .andbRbRb _ _ => 2
  | .andbRbInd _ _ => 2
  | .andbRbIndInc _ _ => 2
  | .andbRbData3 _ _ => 2
  | .andbRegData8 _ _ => 4
  | .andbRegMem _ _ => 4
  | .andbMemReg _ _ => 4
  | .orRwRw _ _ => 2
  | .orRwInd _ _ => 2
  | .orRwIndInc _ _ => 2
  | .orRwData3 _ _ => 2
  | .orRegData16 _ _ => 4
  | .orRegMem _ _ => 4
  | .orMemReg _ _ => 4
  | .orbRbRb _ _ => 2
  | .orbRbInd _ _ => 2
  | .orbRbIndInc _ _ => 2
  | .orbRbData3 _ _ => 2
  | .orbRegData8 _ _ => 4
  | .orbRegMem _ _ => 4
  | .orbMemReg _ _ => 4
  | .rolRwRw _ _ => 2
  | .rolRwData4 _ _ => 2
  | .rorRwRw _ _ => 2
  | .rorRwData4 _ _ => 2
  | .shlRwRw _ _ => 2
  | .shlRwData4 _ _ => 2
  | .shrRwRw _ _ => 2
  | .shrRwData4 _ _ => 2
  | .ashrRwRw _ _ => 2
  | .ashrRwData4 _ _ => 2
  | .priorRwRw _ _ => 2
  | .atomic _ => 2
  | .extr _ => 2
  | .extsRw _ _ => 2
  | .extsSeg _ _ => 4
  | .extpRw _ _ => 2
  | .extpPag _ _ => 4
  | .extsrRw _ _ => 2
  | .extsrSeg _ _ => 4
  | .extprRw _ _ => 2
  | .extprPag _ _ => 4
  | .bfldl _ _ _ => 4
  | .bfldh _ _ _ => 4
  | .bcmp _ _ => 4
  | .bmovn _ _ => 4
  | .bmov _ _ => 4
  | .bor _ _ => 4
  | .band _ _ => 4
  | .bxor _ _ => 4
  | .jb _ _ => 4
  | .jnb _ _ => 4
  | .jbc _ _ => 4
  | .jnbs _ _ => 4
  | .bclr _ => 2
  | .bset _ => 2
  | .calla _ _ => 4
  | .jmpa _ _ => 4
  | .calli _ _ => 2
  | .jmpi _ _ => 2
  | .callr _ => 2
  | .jmpr _ _ => 2
  | .calls _ _ => 4
  | .jmps _ _ => 4
  | .pcall _ _ => 4
  | .ret => 2
  | .rets => 2
  | .reti => 2
  | .retp _ => 2
  | .trap _ => 2
  | .cmpi1RwData4 _ _ => 2
  | .cmpi1RwData16 _ _ => 4
  | .cmpi1RwMem _ _ => 4
  | .cmpi2RwData4 _ _ => 2
  | .cmpi2RwData16 _ _ => 4
  | .cmpi2RwMem _ _ => 4
  | .cmpd1RwData4 _ _ => 2
  | .cmpd1RwData16 _ _ => 4
  | .cmpd1RwMem _ _ => 4
  | .cmpd2RwData4 _ _ => 2
  | .cmpd2RwData16 _ _ => 4
  | .cmpd2RwMem _ _ => 4
  | .neg _ => 2
  | .cpl _ => 2
  | .negb _ => 2
  | .cplb _ => 2
  | .diswdt => 4
  | .einit => 4
  | .idle => 4
  | .pwrdn => 4
  | .srst => 4
  | .srvwdt => 4
  | .nop => 2
  | .mulRwRw _ _ => 2
  | .muluRwRw _ _ => 2
  | .div _ => 2
  | .divu _ => 2
  | .divl _ => 2
  | .divlu _ => 2
  | .movRwRw _ _ => 2
  | .movRwData4 _ _ => 2
  | .movRegData16 _ _ => 4
  | .movRwInd _ _ => 2
  | .movRwIndInc _ _ => 2
  | .movIndRw _ _ => 2
  | .movIndDecRw _ _ => 2
  | .movIndInd _ _ => 2
  | .movIndIncInd _ _ => 2
  | .movIndIndInc _ _ => 2
  | .movRwIndDisp _ _ _ => 4
  | .movIndDispRw _ _ _ => 4
  | .movIndMem _ _ => 4
  | .movMemInd _ _ => 4
  | .movRegMem _ _ => 4
  | .movMemReg _ _ => 4
  | .movbRbRb _ _ => 2
  | .movbRbData4 _ _ => 2
  | .movbRegData8 _ _ => 4
  | .movbRbInd _ _ => 2
  | .movbRbIndInc _ _ => 2
  | .movbIndRb _ _ => 2
  | .movbIndDecRb _ _ => 2
  | .movbIndInd _ _ => 2
  | .movbIndIncInd _ _ => 2
  | .movbIndIndInc _ _ => 2
  | .movbRbIndDisp _ _ _ => 4
  | .movbIndDispRb _ _ _ => 4
  | .movbIndMem _ _ => 4
  | .movbMemInd _ _ => 4
  | .movbRegMem _ _ => 4
  | .movbMemReg _ _ => 4
  | .movbsRwRb _ _ => 2
  | .movbsRegMem _ _ => 4
  | .movbsMemReg _ _ => 4
  | .movbszRwRb _ _ => 2
  | .movbszRegMem _ _ => 4
  | .movbszMemReg _ _ => 4
  | .pop _ => 2
  | .push _ => 2
  | .scxtRegData16 _ _ => 4
  | .scxtRegMem _ _ => 4

end Sys2Proof
end

