-- ==== Sys2Proof/Machine/State.lean ====
section
/-! DEFINITION. The machine's state as plain data (10_state.md R20 to R45), the reasons a step can stop, and the state
after reset (R44, R45). -/

namespace Sys2Proof.Machine

/-- The class B events an instruction or its fetch raises (60_exceptions.md R408), each with the information R408 names. -/
inductive ClassB where
  /-- The fetched bytes are a reserved encoding, or an instruction the device lacks (R118). -/
  | undefinedOpcode (b0 b1 : Byte)
  /-- A protected instruction with wrong bytes (R310). -/
  | protectionFault (b0 b1 b2 b3 : Byte)
  /-- A WORD operand at the odd physical address `pa` (R65). -/
  | illegalWordOperandAccess (pa : PhysAddr)
  /-- A fetch at the odd `ip` (R290). -/
  | illegalInstructionAccess (ip : Word)
  deriving DecidableEq, Repr

/-- Why a step ends in a fault. All are the sticky faults of `HW_TRAP_ENTRY = fault` (R408, R409), raised only with
that setting. Each is safe: the spec defines no further step, and neither does the model. -/
inductive Fault where
  /-- Raised by a class B event (R408); the step has no other effect. Safe. -/
  | classB (e : ClassB)
  /-- Raised at the step boundary after a push left SP below STKOV (R409). Safe. -/
  | stackOverflow
  /-- Raised at the step boundary after a pop left SP above STKUN (R409). Safe. -/
  | stackUnderflow
  /-- Raised at the step boundary where the platform requests an NMI (R409, R4 `HW_TRAP_ENTRY`). Safe. -/
  | nmi
  deriving DecidableEq, Repr

/-- Why a step is refused. Each is a refusal the spec itself makes, and safe: nothing is proved about such a run. -/
inductive Refusal where
  /-- Raised by exec's arm of an instruction that has no meaning yet. Safe. -/
  | notModelled (mnemonic : String)
  /-- Raised by a read or write of an address nothing stands at (20_memory.md R64, R66, R67). Safe. -/
  | absentAddress (pa : PhysAddr)
  /-- Raised by a write to a ROM address (R67). Safe. -/
  | romWrite (pa : PhysAddr)
  /-- Raised by a data write to CSP (10_state.md R28). Safe. -/
  | cspWrite
  /-- Raised by a write to SYSCON after EINIT (R32). Safe. -/
  | sysconLocked
  /-- Raised by a write of PSW with MULIP = 1 (46_mul_div.md R337). Safe. -/
  | mulipWrite
  /-- Raised by ATOMIC or an EXTx instruction inside a running sequence (42_atomic_ext.md R227 a). Safe. -/
  | nestedSequence
  /-- Raised by IDLE or PWRDN inside a running sequence (R227 b). Safe. -/
  | waitInSequence
  /-- Raised by a fetch from an address that is neither RAM nor ROM (20_memory.md R76). Safe. -/
  | fetchOutsideMemory (pa : PhysAddr)
  /-- Raised by the fetch of a byte that a store has changed, when `cfg.selfModifying` is `refuse` (R81). Safe. -/
  | selfModifiedCode (pa : PhysAddr)
  /-- Raised by a class B event whose treatment in `cfg` is `refuse` (00_scope.md R4, D7 to D10). Safe. -/
  | classBRefused (e : ClassB)
  /-- Raised, when `cfg.gprModel` is `abstractFile`, by a step that addresses the memory at CP otherwise than as a general
  register: R22 and D2 require the refusal (10_state.md R22). Safe. -/
  | registerFile (pa : PhysAddr)
  /-- Raised, when `cfg.gprModel` is `abstractFile`, by a write of CP (R22). Safe. -/
  | cpWrite
  /-- Raised by a RETI whose trap entry was made with the other value of SGTDIS (60_exceptions.md R410;
  93_implementation_defined.md U27). Safe. -/
  | segmentationChanged
  /-- Raised by an instruction that uses a core register the instruction before wrote, when `cfg.hazards` is `refuse`
  (70_reset_and_hazards.md R460). Safe. -/
  | pipelineHazard (r : CoreReg)
  deriving DecidableEq, Repr

/-- The CPU run state (10_state.md R41). -/
inductive RunState where
  | running
  | idle
  | powerDown
  deriving DecidableEq, Repr

/-- The ATOMIC/EXTx sequence state (10_state.md R38). -/
structure Seq where
  /-- `seq_count`: how many further instructions run under the lock and the overrides, 0 to 4. -/
  count : Nat := 0
  /-- `seq_esfr`: `reg`, `bitoff`, `bitaddr` go to the ESFR area. -/
  esfr : Bool := false
  /-- `seq_page`: the page EXTP or EXTPR gives data addresses. -/
  page : Option (BitVec 10) := none
  /-- `seq_seg`: the segment EXTS or EXTSR gives data addresses. -/
  seg : Option Byte := none
  deriving DecidableEq, Repr

/-- A pending interrupt request (60_exceptions.md R403): its source's trap number is 0x10 + `vector`, so one of 0x10 to
0x7F, and its priority level. Log entry 27. -/
structure IrqRequest where
  vector : Fin 112
  level : BitVec 4
  deriving DecidableEq, Repr

/-- The trap number of a request (R403). -/
def IrqRequest.trapNo (r : IrqRequest) : BitVec 7 := BitVec.ofNat 7 (0x10 + r.vector.val)

/-- A pending class B request (R408): the trap number of its event and the return address its entry pushes. -/
structure ClassBRequest where
  number : BitVec 7
  ret : Word
  deriving DecidableEq, Repr

/-- A pending PEC request (R404): the bytes the platform agent will move to memory. Log entry 27. -/
structure PecTransfer where
  cells : List Host.Cell
  deriving DecidableEq, Repr

/-- The pending requests (10_state.md R42; 60_exceptions.md R405). -/
structure Pending where
  /-- An external reset is requested (R450). -/
  reset : Bool := false
  /-- `wdt_overflow` (R421). -/
  wdtOverflow : Bool := false
  /-- A class B request (R408). -/
  classB : Option ClassBRequest := none
  /-- The class A requests (R409). -/
  nmi : Bool := false
  stackOverflow : Bool := false
  stackUnderflow : Bool := false
  /-- Interrupt requests, the earlier of equal level first (R403: the order is the platform's). -/
  irqs : List IrqRequest := []
  /-- PEC requests, the earlier first (R404). -/
  pec : List PecTransfer := []
  deriving DecidableEq, Repr

/-- Memory: (address, byte) pairs, addresses strictly rising, no entry equal to what an unlisted address reads as. -/
abbrev Memory := List Host.Cell

/-- Everything the spec gives the machine. -/
structure State where
  /-- The parameters of 00_scope.md R4; no step changes them. -/
  cfg : Config
  /-- The program position (10_state.md R23). -/
  ip : Word
  csp : Word
  /-- The register bank's base (R22). -/
  cp : Word
  /-- The system stack (R29, R35). -/
  sp : Word
  stkov : Word
  stkun : Word
  /-- The status word (R27). -/
  psw : Word
  /-- The multiply/divide registers (R30). -/
  mdh : Word
  mdl : Word
  mdc : Word
  /-- The data page pointers (R31). -/
  dpp0 : Word
  dpp1 : Word
  dpp2 : Word
  dpp3 : Word
  syscon : Word
  /-- The trap flags (60_exceptions.md R407). -/
  tfr : Word
  /-- The watchdog (10_state.md R39). -/
  wdt : Word
  wdtcon : Word
  wdtEnabled : Bool
  wdtOpen : Bool
  /-- The model's own: `wdt` is the count (60_exceptions.md R424: right after reset or SRVWDT). -/
  wdtExact : Bool
  /-- The pin RSTOUT#: true is high (10_state.md R40). -/
  initDone : Bool
  runState : RunState
  /-- The level of the pin NMI#: true is high (R40, an input). -/
  nmiPin : Bool
  seq : Seq
  pending : Pending
  mem : Memory
  /-- The model's own: where the frame of each trap entry lies, and SGTDIS as the entry met it (60_exceptions.md R410). -/
  frames : List (Word × Bool)
  /-- The model's own: the addresses whose byte a store has changed (20_memory.md R81). -/
  changed : List Nat
  /-- The model's own: the core registers the previous instruction wrote explicitly (70_reset_and_hazards.md R460). -/
  lastWrites : List CoreReg
  /-- The model's own: PSW before the last explicit write of it (R460). -/
  pswBefore : Word
  /-- The model's own: how many draws (00_scope.md R12) have been taken. -/
  draws : Nat
  deriving DecidableEq, Repr

/-- `RESET_STATE` (10_state.md R44, R45) of a machine with the default parameters (00_scope.md R4), but for
`HW_TRAP_ENTRY`, which is `modelled` (DESIGN CHOICE, log entry 10). Log entries 2, 3, 4, 8, 10 and 30. -/
def State.reset : State where
  cfg := { trapEntry := .modelled }
  ip := 0x0000
  csp := 0x0000
  cp := 0xFC00
  sp := 0xFC00
  stkov := 0xFA00
  stkun := 0xFC00
  psw := 0x0000
  mdh := 0x0000
  mdl := 0x0000
  mdc := 0x0000
  dpp0 := 0x0000
  dpp1 := 0x0001
  dpp2 := 0x0002
  dpp3 := 0x0003
  syscon := 0x0000
  tfr := 0x0000
  wdt := 0x0000
  wdtcon := 0x0000
  wdtEnabled := true
  wdtOpen := true
  wdtExact := true
  initDone := false
  runState := .running
  nmiPin := true
  seq := {}
  pending := {}
  mem := []
  frames := []
  changed := []
  lastWrites := []
  pswBefore := 0x0000
  draws := 0

end Sys2Proof.Machine
end

