-- ==== Sys2Proof/Machine/Flags.lean ====
section
/-! DEFINITION. The PSW fields and every flag computation (10_state.md R25 to R27; 40_arith_logic.md R142 to R144;
43_bit.md R241, R242; 47_data_move.md R350; 44_call_jump_return.md R270). -/

namespace Sys2Proof.Machine

/-- The five condition flags (R25). -/
structure Flags where
  e : Bool
  z : Bool
  v : Bool
  c : Bool
  n : Bool
  deriving DecidableEq, Repr

/-- A WORD with bit `i` replaced. -/
def withBit (w : Word) (i : Nat) (b : Bool) : Word :=
  if b then w ||| ((1 : Word) <<< i) else w &&& ~~~((1 : Word) <<< i)

/-- The flags a PSW value holds (`PSW_LAYOUT`, R27; by default N 0, C 1, V 2, Z 3, E 4). Log entry 6. -/
def flagsOf (l : PswLayout) (psw : Word) : Flags :=
  ⟨psw.getLsbD l.e.toNat, psw.getLsbD l.z.toNat, psw.getLsbD l.v.toNat, psw.getLsbD l.c.toNat, psw.getLsbD l.n.toNat⟩

/-- A PSW value with its flags replaced, every other bit kept. -/
def withFlags (l : PswLayout) (psw : Word) (f : Flags) : Word :=
  withBit (withBit (withBit (withBit (withBit psw l.n.toNat f.n) l.c.toNat f.c) l.v.toNat f.v) l.z.toNat f.z)
    l.e.toNat f.e

/-- The flags as they stand. -/
def State.flags (s : State) : Flags := flagsOf s.cfg.psw s.psw

/-- The flags written as a side effect of an instruction (R26). -/
def State.setFlags (s : State) (f : Flags) : State := { s with psw := withFlags s.cfg.psw s.psw f }

/-- PSW.IEN (R27; by default bit 11). -/
def ienOf (l : PswLayout) (psw : Word) : Bool := psw.getLsbD l.ien.toNat

/-- PSW.ILVL (R27; by default bits 15..12). -/
def ilvlOf (l : PswLayout) (psw : Word) : BitVec 4 := psw.extractLsb' l.ilvl.toNat 4

/-- A PSW value with ILVL replaced, every other bit kept. -/
def withIlvl (l : PswLayout) (psw : Word) (level : BitVec 4) : Word :=
  (psw &&& ~~~((0x000F : Word) <<< l.ilvl.toNat)) ||| (level.setWidth 16 <<< l.ilvl.toNat)

/-- `MINNEG_W` (00_scope.md R6): 0x8000 or 0x80. -/
def minNeg (w : Nat) : BitVec w := BitVec.intMin w

/-- The exact result lies outside the signed type (R25 V). -/
def signedOverflow (w : Nat) (x : Int) : Bool := decide (x < -(2 ^ (w - 1))) || decide (x > 2 ^ (w - 1) - 1)

/-- A carry or borrow as a number. -/
def bitNat (b : Bool) : Nat := if b then 1 else 0

/-- `AddFlags_W` (R142). -/
def addFlags {w : Nat} (a b : BitVec w) (cin : Bool) : BitVec w × Flags :=
  let u := a.toNat + b.toNat + bitNat cin
  let r := BitVec.ofNat w u
  (r, { e := decide (b = minNeg w), z := decide (r = 0),
        v := signedOverflow w (a.toInt + b.toInt + bitNat cin), c := decide (2 ^ w ≤ u), n := r.msb })

/-- `SubFlags_W` (R143): C is a borrow. -/
def subFlags {w : Nat} (a b : BitVec w) (bin : Bool) : BitVec w × Flags :=
  let d : Int := (a.toNat : Int) - b.toNat - bitNat bin
  let r := BitVec.ofInt w d
  (r, { e := decide (b = minNeg w), z := decide (r = 0),
        v := signedOverflow w (a.toInt - b.toInt - bitNat bin), c := decide (d < 0), n := r.msb })

/-- `LogicFlags_W` (R144): `b` is op2 as read, `r` the result. -/
def logicFlags {w : Nat} (b r : BitVec w) : Flags :=
  { e := decide (b = minNeg w), z := decide (r = 0), v := false, c := false, n := r.msb }

/-- `MovFlags_W` (R350): V and C as they were. -/
def moveFlags {w : Nat} (v : BitVec w) (old : Flags) : Flags :=
  { old with e := decide (v = minNeg w), z := decide (v = 0), n := v.msb }

/-- `TwoBitFlags` (R241). -/
def twoBitFlags (a b : Bool) : Flags :=
  { e := false, z := !(a || b), v := a || b, c := a && b, n := a ^^ b }

/-- `OneBitFlags` (R242), and the flags of JBC and JNBS (R277, R283). -/
def oneBitFlags (b : Bool) : Flags :=
  { e := false, z := !b, v := false, c := false, n := b }

/-- `Cond(cc)` (R270). -/
def condHolds (f : Flags) : Cond → Bool
  | .uc => true
  | .net => !(f.z || f.e)
  | .z => f.z
  | .nz => !f.z
  | .v => f.v
  | .nv => !f.v
  | .n => f.n
  | .nn => !f.n
  | .c => f.c
  | .nc => !f.c
  | .sgt => !(f.z || (f.n ^^ f.v))
  | .sle => f.z || (f.n ^^ f.v)
  | .slt => f.n ^^ f.v
  | .sge => !(f.n ^^ f.v)
  | .ugt => !(f.z || f.c)
  | .ule => f.z || f.c

end Sys2Proof.Machine
end

