-- ==== Sys2Proof/Machine/Memory.lean ====
section
/-! DEFINITION. Memory as a canonical list of bytes (10_state.md R37; 20_memory.md R60, R63). -/

namespace Sys2Proof.Machine

/-- What a byte of memory that nothing has written reads as. R45 leaves RAM unspecified.
DESIGN CHOICE, unsafe: 0x00, log entry 2. -/
def blankByte : Byte := 0

/-- The byte at an address. -/
def Memory.get (m : Memory) (a : Nat) : Byte :=
  match m with
  | [] => blankByte
  | (b, v) :: m => if a = b then v else Memory.get m a

/-- A byte in front of a memory whose addresses are higher; the blank byte is not listed. -/
def Memory.cons (a : Nat) (v : Byte) (m : Memory) : Memory := if v = blankByte then m else (a, v) :: m

/-- The memory with one byte stored. -/
def Memory.set (m : Memory) (a : Nat) (v : Byte) : Memory :=
  match m with
  | [] => Memory.cons a v []
  | (b, w) :: m =>
    if a < b then Memory.cons a v ((b, w) :: m)
    else if a = b then Memory.cons a v m
    else (b, w) :: Memory.set m a v

/-- The addresses rise strictly from `lo` on, and no entry is the blank byte. -/
def Memory.canonicalFrom (lo : Nat) (m : Memory) : Bool :=
  match m with
  | [] => true
  | (a, v) :: m => decide (lo ≤ a) && decide (v ≠ blankByte) && Memory.canonicalFrom (a + 1) m

/-- The canonical form. -/
def Memory.wf (m : Memory) : Bool := Memory.canonicalFrom 0 m

/-- The WORD at an address: low byte at the lower address (R63). Log entry 7. -/
def Memory.getWord (m : Memory) (a : Nat) : Word := Memory.get m (a + 1) ++ Memory.get m a

/-- The set of addresses with one more, in rising order. -/
def insertAddr (a : Nat) (l : List Nat) : List Nat :=
  match l with
  | [] => [a]
  | b :: l => if a < b then a :: b :: l else if a = b then b :: l else b :: insertAddr a l

end Sys2Proof.Machine
end

