-- ==== Sys2Proof/Machine/Ops.lean ====
section
/-! DEFINITION. The named operations over memory, core registers, general registers and the stack (20_memory.md R64 to
R75), taking an exception and returning from one (60_exceptions.md R401, R408 to R410; 44_call_jump_return.md R286),
and reset (70_reset_and_hazards.md R450). -/

namespace Sys2Proof.Machine

/-! ## Results -/

/-- The outcome of a step. -/
abbrev StepOutcome := Host.Outcome State Fault Refusal

/-- Why an operation does not complete: it raises a class B event (R408), or it is refused. -/
inductive Stop where
  | trap (e : ClassB)
  | refuse (r : Refusal)
  deriving DecidableEq, Repr

/-- The result of an operation. -/
abbrev Res (α : Type) := Except Stop α

/-! ## Draws -/

/-- A 16-bit draw (00_scope.md R12). -/
def State.drawWord (s : State) : Word × State := (Config.freeWord s.draws, { s with draws := s.draws + 1 })

/-- A one-bit draw (R12). -/
def State.drawBit (s : State) : Bool × State := (Config.freeBit s.draws, { s with draws := s.draws + 1 })

/-! ## The address map -/

/-- The class of a physical address (R64). -/
inductive AddrClass where
  | ram
  | rom
  | core (r : CoreReg)
  | platform
  | absent
  deriving DecidableEq, Repr

/-- `SFR_MAP` (10_state.md R33): the core register at a `reg` number. Log entry 5. -/
def coreAt (map : List (Nat × CoreReg)) (number : Nat) : Option CoreReg :=
  match map with
  | [] => none
  | x :: map => if number = x.1 then some x.2 else coreAt map number

/-- The SFR area (R64): the 256 WORDs from `SFR_BASE` on. -/
def inSfrArea (c : Config) (a : Nat) : Bool :=
  decide (c.bases.sfr.toNat ≤ a) && decide (a < c.bases.sfr.toNat + 0x200)

/-- The ESFR area (R64): the 256 WORDs from `ESFR_BASE` on, on a device that has `HAS_EXT` (42_atomic_ext.md R228). -/
def inEsfrArea (c : Config) (a : Nat) : Bool :=
  c.device.hasExt && (decide (c.bases.esfr.toNat ≤ a) && decide (a < c.bases.esfr.toNat + 0x200))

/-- The class of a region. -/
def regionClass : RegionKind → AddrClass
  | .ram => .ram
  | .rom => .rom
  | .platform => .platform

/-- The class of an address outside the SFR and ESFR areas: the first region that holds it, else absent (R64, D15). -/
def mappedClass (map : List Region) (a : Nat) : AddrClass :=
  match map with
  | [] => .absent
  | r :: map => if r.base ≤ a ∧ a < r.base + r.size then regionClass r.kind else mappedClass map a

/-- Where the 32 bytes of the register bank begin with `GPR_MODEL = abstract_file` (10_state.md R22): CP keeps its reset
value, since a program that writes it is refused. -/
def fileBase (c : Config) : Word := c.resetValues.cp &&& 0xFFFE

/-- With `GPR_MODEL = abstract_file`: the address lies in the bank, `CP + k` in segment 0 for a `k` below 32. What is kept
there is the register file and no memory, whatever the map has there. Log entry 53. -/
def inFile (c : Config) (pa : PhysAddr) : Bool :=
  decide (c.gprModel = .abstractFile) && decide (pa.toNat < 0x10000) &&
    decide ((pa.extractLsb' 0 16 - fileBase c).toNat < 32)

/-- The class of a physical address (R33, R64): the bytes that keep a register file are as RAM; an SFR or ESFR address that is no core register is the platform's. -/
def classify (c : Config) (pa : PhysAddr) : AddrClass :=
  if inFile c pa then .ram
  else if inSfrArea c pa.toNat then
    match coreAt c.sfrMap ((pa.toNat - c.bases.sfr.toNat) / 2) with
    | some r => .core r
    | none => .platform
  else if inEsfrArea c pa.toNat then .platform
  else mappedClass c.map pa.toNat

/-- A physical address truncated to `PA_BITS` (R4, R72). -/
def truncateAddr (d : Device) (pa : PhysAddr) : PhysAddr :=
  match d.segWidth with
  | .eight => pa
  | .two => pa &&& 0x03FFFF

/-- A WORD with the bits above `SEG_BITS` cleared (10_state.md R23). -/
def maskSeg (d : Device) (w : Word) : Word :=
  match d.segWidth with
  | .eight => w &&& 0x00FF
  | .two => w &&& 0x0003

/-- SYSCON.SGTDIS (`SGTDIS_BIT`, 10_state.md R32). -/
def State.sgtdis (s : State) : Bool := s.syscon.getLsbD s.cfg.sgtdisBit.toNat

/-! ## Core registers -/

/-- The DPP register a 2-bit number names (R31). -/
def State.dpp (s : State) (k : BitVec 2) : Word :=
  match k.toNat with
  | 0 => s.dpp0
  | 1 => s.dpp1
  | 2 => s.dpp2
  | _ => s.dpp3

/-- The write of a DPP register: bits 15..10 forced to 0 (R67). -/
def State.setDpp (s : State) (k : BitVec 2) (v : Word) : State :=
  match k.toNat with
  | 0 => { s with dpp0 := v &&& 0x03FF }
  | 1 => { s with dpp1 := v &&& 0x03FF }
  | 2 => { s with dpp2 := v &&& 0x03FF }
  | _ => { s with dpp3 := v &&& 0x03FF }

/-- MDC.MDRIU set, by a write of MDL or MDH (10_state.md R30). -/
def State.markMdInUse (s : State) : State := { s with mdc := s.mdc ||| 0x0010 }

/-- MDC.MDRIU cleared, by a read of MDL (R30). -/
def State.clearMdInUse (s : State) : State := { s with mdc := s.mdc &&& 0xFFEF }

/-- The watchdog count is known: right after reset or SRVWDT, or with a rate (60_exceptions.md R423, R424). -/
def State.wdtKnown (s : State) : Bool := s.wdtExact || s.cfg.wdtRate.isSome

/-- The WORD a core register reads as (R66): ZEROS and ONES are constants (R33), the watchdog count is a draw unless
known (R424), a read of MDL clears MDRIU (R30). Log entry 31. -/
def loadCore (r : CoreReg) (s : State) : Word × State :=
  match r with
  | .dpp k => (s.dpp k, s)
  | .csp => (s.csp, s)
  | .mdh => (s.mdh, s)
  | .mdl => (s.mdl, s.clearMdInUse)
  | .cp => (s.cp, s)
  | .sp => (s.sp, s)
  | .stkov => (s.stkov, s)
  | .stkun => (s.stkun, s)
  | .mdc => (s.mdc, s)
  | .psw => (s.psw, s)
  | .syscon => (s.syscon, s)
  | .zeros => (0x0000, s)
  | .ones => (0xFFFF, s)
  | .tfr => (s.tfr, s)
  | .wdt => if s.wdtKnown then (s.wdt, s) else s.drawWord
  | .wdtcon => (s.wdtcon, s)

/-- Why a core register refuses the value (10_state.md R33): CSP is no data destination (R28), SYSCON is locked after
EINIT (R32), MULIP is never written as 1 (46_mul_div.md R337). Log entries 18 and 29. -/
def coreRefusal (r : CoreReg) (v : Word) (s : State) : Option Refusal :=
  match r with
  | .csp => some .cspWrite
  | .syscon => if s.initDone then some .sysconLocked else none
  | .psw => if v.getLsbD s.cfg.psw.mulip.toNat then some .mulipWrite else none
  | _ => none

/-- A core register written by its access column (R33; 20_memory.md R67): ZEROS, ONES and WDT ignore the write, bit 0 of
CP, SP, STKOV and STKUN, bits 15..10 of DPPx and the reserved bits of PSW are forced to 0, a write of MDL or MDH sets MDRIU. -/
def storedCore (r : CoreReg) (v : Word) (s : State) : State :=
  match r with
  | .dpp k => s.setDpp k v
  | .csp => s
  | .mdh => { s.markMdInUse with mdh := v }
  | .mdl => { s.markMdInUse with mdl := v }
  | .cp => { s with cp := v &&& 0xFFFE }
  | .sp => { s with sp := v &&& 0xFFFE }
  | .stkov => { s with stkov := v &&& 0xFFFE }
  | .stkun => { s with stkun := v &&& 0xFFFE }
  | .mdc => { s with mdc := v }
  | .psw => { s with psw := v &&& ~~~s.cfg.psw.reserved }
  | .syscon => { s with syscon := v }
  | .zeros => s
  | .ones => s
  | .tfr => { s with tfr := v }
  | .wdt => s
  | .wdtcon => { s with wdtcon := v }

/-- The write of a core register (R67). -/
def storeCore (r : CoreReg) (v : Word) (s : State) : Res State :=
  match coreRefusal r v s with
  | some e => .error (.refuse e)
  | none => .ok (storedCore r v s)

/-! ## Memory accesses -/

/-- The WORD at an even, a high byte at an odd address of a register (R66). -/
def byteOf (a : Nat) (w : Word) : Byte := if a % 2 = 0 then w.extractLsb' 0 8 else w.extractLsb' 8 8

/-- The WORD a byte write gives a register: the addressed byte, the other byte 0 (R67). -/
def wordOfByte (a : Nat) (v : Byte) : Word := if a % 2 = 0 then (0 : Byte) ++ v else v ++ (0 : Byte)

/-- One byte stored in RAM; an address whose byte changes is noted for R81. -/
def State.storeByte (s : State) (a : Nat) (v : Byte) : State :=
  { s with
    mem := s.mem.set a v
    changed := if s.mem.get a = v then s.changed else insertAddr a s.changed }

/-- One WORD stored in RAM, low byte first (R63). -/
def State.storeWord (s : State) (a : Nat) (v : Word) : State :=
  (s.storeByte a (v.extractLsb' 0 8)).storeByte (a + 1) (v.extractLsb' 8 8)

/-- A byte written to the platform: an output (R67); the model keeps the last value driven. Log entry 9. -/
def State.driveByte (s : State) (a : Nat) (v : Byte) : State := { s with mem := s.mem.set a v }

/-- A WORD written to the platform (R67). -/
def State.driveWord (s : State) (a : Nat) (v : Word) : State :=
  (s.driveByte a (v.extractLsb' 0 8)).driveByte (a + 1) (v.extractLsb' 8 8)

/-- The width of an operand access (R69). -/
inductive Width where
  | byte
  | word
  deriving DecidableEq, Repr

/-- Why an address of the width cannot be accessed: a WORD at an odd address is a trap (R65), an absent address a refusal
(R64). -/
def accessStop (w : Width) (pa : PhysAddr) (c : Config) : Option Stop :=
  if w = .word ∧ pa.getLsbD 0 = true then some (.trap (.illegalWordOperandAccess pa))
  else if classify c pa = .absent then some (.refuse (.absentAddress pa))
  else none

/-- The WORD an accessible address reads as, and what the read does (R66): a platform read is an input, a draw,
and so is a second one of the same location by the same instruction. Log entries 9 and 54. -/
def loadedW (pa : PhysAddr) (s : State) : Word × State :=
  match classify s.cfg pa with
  | .core r => loadCore r s
  | .platform => s.drawWord
  | _ => (s.mem.getWord pa.toNat, s)

/-- The BYTE an accessible address reads as: the half of a register the address names (R66). -/
def loadedB (pa : PhysAddr) (s : State) : Byte × State :=
  match classify s.cfg pa with
  | .core r => (byteOf pa.toNat (loadCore r s).1, (loadCore r s).2)
  | .platform => (byteOf pa.toNat s.drawWord.1, s.drawWord.2)
  | _ => (s.mem.get pa.toNat, s)

/-- `MemW(pa)`, `MemRead(pa, 2)` (R65, R66). -/
def memReadW (pa : PhysAddr) (s : State) : Res (Word × State) :=
  match accessStop .word pa s.cfg with
  | some e => .error e
  | none => .ok (loadedW pa s)

/-- `MemB(pa)`, `MemRead(pa, 1)` (R66). -/
def memReadB (pa : PhysAddr) (s : State) : Res (Byte × State) :=
  match accessStop .byte pa s.cfg with
  | some e => .error e
  | none => .ok (loadedB pa s)

/-- Why a value cannot be written: the address (`accessStop`), ROM (R67), or a core register that refuses it. `v` is the
WORD a register would take. -/
def writeStop (w : Width) (pa : PhysAddr) (v : Word) (s : State) : Option Stop :=
  match accessStop w pa s.cfg with
  | some e => some e
  | none =>
    match classify s.cfg pa with
    | .rom => some (.refuse (.romWrite pa))
    | .core r => (coreRefusal r v s).map .refuse
    | _ => none

/-- A WORD written where it can be (R67). -/
def storedW (pa : PhysAddr) (v : Word) (s : State) : State :=
  match classify s.cfg pa with
  | .core r => storedCore r v s
  | .platform => s.driveWord pa.toNat v
  | _ => s.storeWord pa.toNat v

/-- A BYTE written where it can be (R67): in the SFR and ESFR areas the other byte of the register is cleared. Log entry 21. -/
def storedB (pa : PhysAddr) (v : Byte) (s : State) : State :=
  match classify s.cfg pa with
  | .core r => storedCore r (wordOfByte pa.toNat v) s
  | .platform =>
    if inSfrArea s.cfg pa.toNat || inEsfrArea s.cfg pa.toNat then
      s.driveWord (pa.toNat - pa.toNat % 2) (wordOfByte pa.toNat v)
    else s.driveByte pa.toNat v
  | _ => s.storeByte pa.toNat v

/-- `MemW(pa) <- v`, `MemWrite(pa, 2, v)` (R65, R67). -/
def memWriteW (pa : PhysAddr) (v : Word) (s : State) : Res State :=
  match writeStop .word pa v s with
  | some e => .error e
  | none => .ok (storedW pa v s)

/-- `MemB(pa) <- v`, `MemWrite(pa, 1, v)` (R67). -/
def memWriteB (pa : PhysAddr) (v : Byte) (s : State) : Res State :=
  match writeStop .byte pa (wordOfByte pa.toNat v) s with
  | some e => .error e
  | none => .ok (storedB pa v s)

/-! ## General registers -/

/-- The physical address of `Rw[n]`: CP + 2n in segment 0 (10_state.md R22). Log entry 1. -/
def gprAddr (s : State) (n : BitVec 4) : PhysAddr := (0 : Byte) ++ (s.cp + 2 * n.setWidth 16)

/-- The physical address of `Rb[k]`: CP + k in segment 0 (R21, R22). -/
def gprByteAddr (s : State) (k : BitVec 4) : PhysAddr := (0 : Byte) ++ (s.cp + k.setWidth 16)

/-- `Rw[n]` (R20, R22). -/
def readGpr (n : BitVec 4) (s : State) : Res (Word × State) := memReadW (gprAddr s n) s

/-- `Rw[n] <- v` (R20, R22). -/
def writeGpr (n : BitVec 4) (v : Word) (s : State) : Res State := memWriteW (gprAddr s n) v s

/-! ## The instruction pointer and the stack -/

/-- `next_IP` (10_state.md R24): the sum wraps inside the segment. Log entry 33. -/
def State.nextIp (s : State) (len : Nat) : Word := s.ip + BitVec.ofNat 16 len

/-- `IP <- next_IP` (R24). -/
def State.advance (s : State) (len : Nat) : State := { s with ip := s.nextIp len }

/-- `IP <- t` (R24). -/
def State.jumpTo (s : State) (t : Word) : State := { s with ip := t }

/-- `StackAddr(sp)`: the address SP in segment 0 (R75). Log entry 25. -/
def stackAddr (sp : Word) : PhysAddr := (0 : Byte) ++ sp

/-- The TFR bit a requested event sets, where events are entered (60_exceptions.md R407 to R409). -/
def State.noteTrap (s : State) (flag : Word) : State :=
  match s.cfg.trapEntry with
  | .fault => s
  | .modelled => { s with tfr := s.tfr ||| flag }

/-- The class A request StackOverflow (R409). -/
def State.requestStackOverflow (s : State) : State :=
  { s.noteTrap s.cfg.trapTable.stackOverflow.flag with pending := { s.pending with stackOverflow := true } }

/-- The class A request StackUnderflow (R409). -/
def State.requestStackUnderflow (s : State) : State :=
  { s.noteTrap s.cfg.trapTable.stackUnderflow.flag with pending := { s.pending with stackUnderflow := true } }

/-- The check after a push: SP < STKOV requests StackOverflow (R75, R409). Log entry 26. -/
def State.checkOverflow (s : State) : State := if s.sp < s.stkov then s.requestStackOverflow else s

/-- The check after a pop: SP > STKUN requests StackUnderflow (R75, R409). -/
def State.checkUnderflow (s : State) : State := if s.stkun < s.sp then s.requestStackUnderflow else s

/-- `Push(v)` (R75). -/
def push (v : Word) (s : State) : Res State := do
  let s := { s with sp := s.sp - 2 }
  let s ← memWriteW (stackAddr s.sp) v s
  .ok s.checkOverflow

/-- `Pop()` (R75). -/
def pop (s : State) : Res (Word × State) := do
  let (t, s) ← memReadW (stackAddr s.sp) s
  .ok (t, ({ s with sp := s.sp + 2 } : State).checkUnderflow)

/-! ## Taking an exception and returning -/

/-- CSP pushed and cleared, with segmentation enabled (60_exceptions.md R401). -/
def pushSegment (s : State) : Res State :=
  if s.sgtdis then .ok s
  else do
    let s ← push s.csp s
    .ok { s with csp := 0 }

/-- CSP popped, with segmentation enabled; its low `SEG_BITS` bits are kept (R410; 44_call_jump_return.md R286). -/
def popSegment (s : State) : Res State :=
  if s.sgtdis then .ok s
  else do
    let (csp, s) ← pop s
    .ok { s with csp := maskSeg s.cfg.device csp }

/-- A trap entry noted: the SP it leaves, and SGTDIS as it was (R410). Log entry 37. -/
def State.noteFrame (s : State) (sgtdis : Bool) : State :=
  { s with frames := (s.sp, sgtdis) :: s.frames.filter fun f => decide (f.1 ≠ s.sp) }

/-- The note of the entry whose frame SP points to, taken out. -/
def State.dropFrame (s : State) : State := { s with frames := s.frames.filter fun f => decide (f.1 ≠ s.sp) }

/-- Why a RETI is refused: the entry whose frame SP points to met the other value of SGTDIS (R410, R461 f; U27). Log
entry 37. -/
def frameStop (s : State) : Option Refusal :=
  match s.frames.find? fun f => decide (f.1 = s.sp) with
  | some f => if f.2 = s.sgtdis then none else some .segmentationChanged
  | none => none

/-- `Enter(t, ret, newlevel)` (60_exceptions.md R401), the one entry of TRAP (44_call_jump_return.md R289), interrupts and
hardware traps: PSW as it was, CSP with segmentation enabled, and the return address are pushed, CSP is cleared, and
IP becomes 4 * t. -/
def enterTrap (t : BitVec 7) (ret : Word) (newLevel : Option (BitVec 4)) (s : State) : Res State := do
  let old := s.psw
  let s := match newLevel with
    | some l => { s with psw := withIlvl s.cfg.psw s.psw l }
    | none => s
  let s ← push old s
  let sgtdis := s.sgtdis
  let s ← pushSegment s
  let s ← push ret s
  .ok ((s.noteFrame sgtdis).jumpTo (4 * t.setWidth 16))

/-- The return from an interrupt or trap (R410; 44_call_jump_return.md R286): IP, CSP with segmentation enabled, and PSW
are popped. Log entry 37. -/
def returnFromTrap (s : State) : Res State :=
  match frameStop s with
  | some r => .error (.refuse r)
  | none => do
    let (ip, s) ← pop s.dropFrame
    let s := s.jumpTo ip
    let s ← popSegment s
    let (psw, s) ← pop s
    storeCore .psw psw s

/-- The row of a class B event in `HW_TRAP_TABLE` (R407). -/
def ClassB.row (e : ClassB) (t : TrapTable) : TrapRow :=
  match e with
  | .undefinedOpcode _ _ => t.undefinedOpcode
  | .protectionFault _ _ _ _ => t.protectionFault
  | .illegalWordOperandAccess _ => t.illegalWordOperandAccess
  | .illegalInstructionAccess _ => t.illegalInstructionAccess

/-- What the parameters of R4 make of a class B event (D7 to D10). Log entry 52. -/
def ClassB.treatment (e : ClassB) (c : Config) : EventTreatment :=
  match e with
  | .undefinedOpcode _ _ => c.reservedOpcode
  | .protectionFault _ _ _ _ => c.protectedMismatch
  | .illegalWordOperandAccess _ => c.misalignedWord
  | .illegalInstructionAccess _ => c.oddTarget

/-- The return address of a class B event (R408): the faulting instruction for an undefined opcode and a protection
fault, a draw for the other two. Log entry 12. -/
def ClassB.returnAddr (e : ClassB) (s : State) : Word × State :=
  match e with
  | .undefinedOpcode _ _ => (s.ip, s)
  | .protectionFault _ _ _ _ => (s.ip, s)
  | .illegalWordOperandAccess _ => s.drawWord
  | .illegalInstructionAccess _ => s.drawWord

/-- A class B event requested (R408 with `HW_TRAP_ENTRY = modelled`): its TFR bit is set, the sequence state is cleared
(42_atomic_ext.md R220 item 5), and the request stays for the next examination (R405 item 2). -/
def State.requestClassB (s : State) (e : ClassB) : State :=
  let row := e.row s.cfg.trapTable
  let (ret, s) := e.returnAddr s
  { s.noteTrap row.flag with seq := {}, pending := { s.pending with classB := some ⟨row.number, ret⟩ } }

/-- `raise X` (R408): from the state before the instruction, a sticky fault or the request of the trap; or a refusal, where
the parameter of the event says so. -/
def raiseClassB (e : ClassB) (s : State) : StepOutcome :=
  match e.treatment s.cfg with
  | .refuse => .refused (.classBRefused e)
  | .raise =>
    match s.cfg.trapEntry with
    | .fault => .fault (.classB e)
    | .modelled => .next (s.requestClassB e)

/-- The outcome of an instruction that began in `s`: on a class B event none of its effects stand (R65, R408). -/
def finish (s : State) (r : Res State) : StepOutcome :=
  match r with
  | .ok t => .next t
  | .error (.trap e) => raiseClassB e s
  | .error (.refuse r) => .refused r

/-! ## Reset -/

/-- What resets the chip (70_reset_and_hazards.md R450). -/
inductive ResetCause where
  | external
  | software
  | watchdog
  deriving DecidableEq, Repr

/-- Memory after a reset (R450, R451): ROM keeps its bytes, RAM holds drawn ones. -/
def memoryAfterReset (c : Config) (m : Memory) (drawn : List Host.Cell) : Memory :=
  drawn.foldl
    (fun m x => if x.1 < 2 ^ 24 ∧ classify c (BitVec.ofNat 24 x.1) = .ram then Memory.set m x.1 x.2 else m)
    (m.filter fun x => decide (classify c (BitVec.ofNat 24 x.1) = .rom))

/-- `reset()` (R450): every register takes its `RESET_STATE` value (10_state.md R45), with the bits at 0 that R33 holds at 0
and the flags 0 (R44); everything else is as `State.reset` has it; the parameters and the input NMI# stay; WDTR is 1 after
a watchdog reset. Log entry 30. -/
def State.resetBy (s : State) (cause : ResetCause) : State :=
  let v := s.cfg.resetValues
  { State.reset with
    cfg := s.cfg
    ip := v.ip
    csp := maskSeg s.cfg.device v.csp
    cp := v.cp &&& 0xFFFE
    sp := v.sp &&& 0xFFFE
    stkov := v.stkov &&& 0xFFFE
    stkun := v.stkun &&& 0xFFFE
    psw := withBit (withFlags s.cfg.psw v.psw ⟨false, false, false, false, false⟩) s.cfg.psw.mulip.toNat false
      &&& ~~~s.cfg.psw.reserved
    mdh := v.mdh
    mdl := v.mdl
    mdc := v.mdc
    dpp0 := v.dpp0 &&& 0x03FF
    dpp1 := v.dpp1 &&& 0x03FF
    dpp2 := v.dpp2 &&& 0x03FF
    dpp3 := v.dpp3 &&& 0x03FF
    syscon := v.syscon
    tfr := v.tfr
    wdt := v.wdt
    wdtcon := if cause = .watchdog then v.wdtcon ||| 0x0002 else v.wdtcon
    nmiPin := s.nmiPin
    mem := memoryAfterReset s.cfg s.mem (Config.freeRam s.draws)
    draws := s.draws + 1 }

end Sys2Proof.Machine
end

