-- ==== Sys2Proof/Machine/Events.lean ====
section
/-! DEFINITION. The examination of events before a fetch (60_exceptions.md R403 to R409), the end of the idle state
(45_system.md R313) and the watchdog's count (R421, R423). -/

namespace Sys2Proof.Machine

/-! ## Class B -/

/-- A pending class B request entered (R405 item 2, R408): whatever the sequence and PSW say; the sequence state is
cleared first, the level is 15. -/
def enterClassB (x : ClassBRequest) (s : State) : Res State :=
  enterTrap x.number x.ret (some 15) { s with seq := {}, pending := { s.pending with classB := none } }

/-! ## Class A -/

/-- The class A events (R407), in their order of priority (R405 item 3). -/
inductive ClassA where
  | nmi
  | stackOverflow
  | stackUnderflow
  deriving DecidableEq, Repr

/-- The row of a class A event in `HW_TRAP_TABLE` (R407). -/
def ClassA.row (a : ClassA) (t : TrapTable) : TrapRow :=
  match a with
  | .nmi => t.nmi
  | .stackOverflow => t.stackOverflow
  | .stackUnderflow => t.stackUnderflow

/-- The sticky fault of `HW_TRAP_ENTRY = fault` (R409). -/
def ClassA.fault : ClassA → Fault
  | .nmi => .nmi
  | .stackOverflow => .stackOverflow
  | .stackUnderflow => .stackUnderflow

/-- The first pending class A request (R405 item 3). -/
def firstClassA (p : Pending) : Option ClassA :=
  if p.nmi then some .nmi
  else if p.stackOverflow then some .stackOverflow
  else if p.stackUnderflow then some .stackUnderflow
  else none

/-- A class A request taken out of the pending ones. NMI sets its TFR bit now: the platform, not an instruction, has
requested it (R409). -/
def ClassA.take (a : ClassA) (s : State) : State :=
  match a with
  | .nmi => { s.noteTrap s.cfg.trapTable.nmi.flag with pending := { s.pending with nmi := false } }
  | .stackOverflow => { s with pending := { s.pending with stackOverflow := false } }
  | .stackUnderflow => { s with pending := { s.pending with stackUnderflow := false } }

/-- A class A request entered (R409): the return address is the next instruction's, the level 15. -/
def enterClassA (a : ClassA) (s : State) : Res State := enterTrap (a.row s.cfg.trapTable).number s.ip (some 15) (a.take s)

/-! ## Interrupts and PEC -/

/-- The acceptance of a request by a PSW value (R403): IEN = 1 and the level above ILVL. -/
def IrqRequest.acceptable (r : IrqRequest) (l : PswLayout) (psw : Word) : Bool :=
  ienOf l psw && decide (ilvlOf l psw < r.level)

/-- The request of the highest level, the first of those of equal level (R403). -/
def highestIrq (rs : List IrqRequest) : Option IrqRequest :=
  match rs with
  | [] => none
  | r :: rs =>
    match highestIrq rs with
    | none => some r
    | some q => if r.level < q.level then some q else some r

/-- The PSW an interrupt request meets: right after an explicit write of PSW the old or the new one, by a draw
(70_reset_and_hazards.md R460, row PSW); with `cfg.hazards = sequential` the new one. -/
def pswForInterrupt (s : State) : Word × State :=
  if s.cfg.hazards = .refuse ∧ .psw ∈ s.lastWrites ∧ s.pending.irqs ≠ [] then
    (if s.drawBit.1 then s.psw else s.pswBefore, s.drawBit.2)
  else (s.psw, s)

/-- An interrupt request entered (R403): the request's flag is cleared, its level becomes PSW.ILVL. -/
def enterInterrupt (r : IrqRequest) (s : State) : Res State :=
  enterTrap r.trapNo s.ip (some r.level) { s with pending := { s.pending with irqs := s.pending.irqs.erase r } }

/-- One byte moved by the PEC: to RAM or to the platform, nowhere else (R404). R404 lets the PEC change RAM and never a CPU
register; with `GPR_MODEL = memory_mapped` the bank is both, and the model lets a transfer change it as RAM (DESIGN
CHOICE, log entry 51). With `abstract_file` the bytes at CP keep the registers, which a transfer leaves alone. -/
def pecStore (s : State) (c : Host.Cell) : State :=
  if c.1 < 2 ^ 24 then
    match classify s.cfg (BitVec.ofNat 24 c.1) with
    | .ram =>
      if inFile s.cfg (BitVec.ofNat 24 c.1) then s else s.storeByte c.1 c.2
    | .platform => s.driveByte c.1 c.2
    | _ => s
  else s

/-- A PEC transfer as a move of the platform: no CPU register changes (R404). -/
def servePec (x : PecTransfer) (rest : List PecTransfer) (s : State) : State :=
  { x.cells.foldl pecStore s with pending := { s.pending with pec := rest } }

/-! ## The examination -/

/-- The sticky fault of a stack limit passed, with `HW_TRAP_ENTRY = fault` (R409): it is raised whatever the sequence
state is. Log entry 26. -/
def limitFault (s : State) : Option Fault :=
  match s.cfg.trapEntry with
  | .modelled => none
  | .fault =>
    if s.pending.stackOverflow then some .stackOverflow
    else if s.pending.stackUnderflow then some .stackUnderflow
    else none

/-- The class B request that is to be entered (R405 item 2, R408). -/
def dueClassB (s : State) : Option ClassBRequest :=
  match s.cfg.trapEntry with
  | .fault => none
  | .modelled => s.pending.classB

/-- Items 3 and 4 of R405, outside a sequence: what is taken, with the state to go on from if nothing is. Log entry 28. -/
def examineUnlocked (s : State) : State × Option StepOutcome :=
  match firstClassA s.pending with
  | some a =>
    (s, some (match s.cfg.trapEntry with
      | .fault => .fault a.fault
      | .modelled => finish s (enterClassA a s)))
  | none =>
    let (psw, t) := pswForInterrupt s
    match highestIrq (t.pending.irqs.filter fun r => r.acceptable s.cfg.psw psw) with
    | some r => (t, some (finish t (enterInterrupt r t)))
    | none =>
      match t.pending.pec with
      | x :: rest => (t, some (.next (servePec x rest t)))
      | [] => (t, none)

/-- The examination of events (R405 items 2 to 4): what is taken, with the state to go on from if nothing is. While a
sequence runs only a class B request is taken (42_atomic_ext.md R220 item 2). -/
def examine (s : State) : State × Option StepOutcome :=
  match dueClassB s with
  | some x => (s, some (finish s (enterClassB x s)))
  | none =>
    match limitFault s with
    | some f => (s, some (.fault f))
    | none => if s.seq.count = 0 then examineUnlocked s else (s, none)

/-- A request ends the idle state, be it acceptable or not (45_system.md R313; R405). -/
def wakes (s : State) : Bool := (firstClassA s.pending).isSome || !s.pending.irqs.isEmpty || !s.pending.pec.isEmpty

/-! ## The watchdog -/

/-- The watchdog's move after a step (R423): with a rate and while enabled it counts, and a wrap requests a reset. Log entry 31. -/
def State.tick (s : State) : State :=
  match s.cfg.wdtRate with
  | none => s
  | some rate =>
    if s.wdtEnabled then
      { s with
        wdt := s.wdt + BitVec.ofNat 16 rate
        pending := { s.pending with wdtOverflow := s.pending.wdtOverflow || decide (65536 ≤ s.wdt.toNat + rate) } }
    else s

/-- The watchdog resets the chip now (R421): an overflow while it is enabled. -/
def watchdogResets (s : State) : Bool := s.pending.wdtOverflow && s.wdtEnabled

end Sys2Proof.Machine
end

