-- ==== Sys2Proof/Machine/Operands.lean ====
section
/-! DEFINITION. Every operand form (00_scope.md R8; 20_memory.md R70 to R74) and the addresses it names. -/

namespace Sys2Proof.Machine

/-- The step of `[Rw+]` and `[-Rw]`: 2 for a WORD, 1 for a BYTE instruction (R73). -/
def Width.step : Width → Word
  | .byte => 1
  | .word => 2

/-- An operand that is a location. -/
inductive Loc where
  /-- `Rw_n` -/
  | rw (n : BitVec 4)
  /-- `Rb_n` -/
  | rb (k : BitVec 4)
  /-- `reg` -/
  | reg (r : Byte)
  /-- `bitoff`, and the WORD of a `bitaddr` -/
  | bitoff (q : Byte)
  /-- `mem` -/
  | mem (a : Word)
  /-- `[Rw_n]` -/
  | ind (n : BitVec 4)
  /-- `[Rw_n+]` -/
  | indInc (n : BitVec 4)
  /-- `[-Rw_n]` -/
  | indDec (n : BitVec 4)
  /-- `[Rw_n+#data16]` -/
  | indDisp (n : BitVec 4) (d : Word)
  deriving DecidableEq, Repr

/-- A source operand: an immediate, zero-extended to the width (30_encoding.md R110), or a location. -/
inductive Src (w : Nat) where
  | imm (v : BitVec w)
  | loc (l : Loc)
  deriving DecidableEq, Repr

/-- `DataAddr(a)` (R72): the EXTS or EXTP override, else segment 0 with SGTDIS = 1, else the DPP register `a[15:14]`
selects. Log entry 24. -/
def dataAddr (a : Word) (s : State) : PhysAddr :=
  match s.seq.seg with
  | some g => truncateAddr s.cfg.device (g ++ a)
  | none =>
    match s.seq.page with
    | some p => truncateAddr s.cfg.device (p ++ a.extractLsb' 0 14)
    | none =>
      if s.sgtdis then (0 : Byte) ++ a
      else truncateAddr s.cfg.device ((s.dpp (a.extractLsb' 14 2)).extractLsb' 0 10 ++ a.extractLsb' 0 14)

/-- The SFR or ESFR WORD a number 0x00..0xEF names (R70): from `SFR_BASE` or, inside an EXTR sequence, `ESFR_BASE`. -/
def sfrAddr (r : Byte) (s : State) : PhysAddr :=
  (if s.seq.esfr then s.cfg.bases.esfr else s.cfg.bases.sfr) + 2 * r.setWidth 24

/-- `RegW(RR)` and `RegB(RR)` (R70, R71): 0xF0..0xFF is a general register; a BYTE access of an SFR is to its low byte. -/
def regAddr (r : Byte) (w : Width) (s : State) : PhysAddr :=
  if r.extractLsb' 4 4 = 0xF#4 then
    match w with
    | .word => gprAddr s (r.extractLsb' 0 4)
    | .byte => gprByteAddr s (r.extractLsb' 0 4)
  else sfrAddr r s

/-- `BitWord(QQ)` (R74): internal RAM, the bit-addressable SFRs or ESFRs, or a general register. -/
def bitWordAddr (q : Byte) (s : State) : PhysAddr :=
  if q.extractLsb' 4 4 = 0xF#4 then gprAddr s (q.extractLsb' 0 4)
  else if q.getLsbD 7 then
    (if s.seq.esfr then s.cfg.bases.bitEsfr else s.cfg.bases.bitSfr) + 2 * (q &&& 0x7F).setWidth 24
  else s.cfg.bases.bitRam + 2 * q.setWidth 24

/-- The physical address of a location, formed before the instruction changes anything (R72, R73; 47_data_move.md
R359). -/
def Loc.addr (l : Loc) (w : Width) (s : State) : Res (PhysAddr × State) :=
  match l with
  | .rw n => .ok (gprAddr s n, s)
  | .rb k => .ok (gprByteAddr s k, s)
  | .reg r => .ok (regAddr r w s, s)
  | .bitoff q => .ok (bitWordAddr q s, s)
  | .mem a => .ok (dataAddr a s, s)
  | .ind n => do
    let (p, s) ← readGpr n s
    .ok (dataAddr p s, s)
  | .indInc n => do
    let (p, s) ← readGpr n s
    .ok (dataAddr p s, s)
  | .indDec n => do
    let (p, s) ← readGpr n s
    .ok (dataAddr (p - w.step) s, s)
  | .indDisp n d => do
    let (p, s) ← readGpr n s
    .ok (dataAddr (p + d) s, s)

/-- The pre-decrement of `[-Rw_n]` (R73). It reads the pointer again, after the address was formed: where the bank lies
over a platform address each read is a value of its own. DESIGN CHOICE, log entry 45. Else log entry 23. -/
def Loc.before (l : Loc) (w : Width) (s : State) : Res State :=
  match l with
  | .indDec n => do
    let (p, s) ← readGpr n s
    writeGpr n (p - w.step) s
  | _ => .ok s

/-- The post-increment of `[Rw_n+]` (R73). It reads the pointer again, as `Loc.before` does. DESIGN CHOICE, log entry 45.
Else log entry 23. -/
def Loc.after (l : Loc) (w : Width) (s : State) : Res State :=
  match l with
  | .indInc n => do
    let (p, s) ← readGpr n s
    writeGpr n (p + w.step) s
  | _ => .ok s

/-- The location is `[Rw_n+]` at its own pointer, laid over a core register: the operand is final and the increment is
lost (R68). -/
def Loc.ownPointer (l : Loc) (pa : PhysAddr) (s : State) : Bool :=
  match l with
  | .indInc n =>
    match classify s.cfg (gprAddr s n) with
    | .core _ => decide (gprAddr s n = pa &&& 0xFFFFFE)
    | _ => false
  | _ => false

/-- A WORD source operand, with its post-increment (R73, R77). -/
def readSrcW (src : Src 16) (s : State) : Res (Word × State) :=
  match src with
  | .imm v => .ok (v, s)
  | .loc l => do
    let (pa, s) ← l.addr .word s
    let (v, s) ← memReadW pa s
    let s ← l.after .word s
    .ok (v, s)

/-- A BYTE source operand, with its post-increment (R73, R77). -/
def readSrcB (src : Src 8) (s : State) : Res (Byte × State) :=
  match src with
  | .imm v => .ok (v, s)
  | .loc l => do
    let (pa, s) ← l.addr .byte s
    let (v, s) ← memReadB pa s
    let s ← l.after .byte s
    .ok (v, s)

/-- What the hazard rule needs to know of an explicit write (70_reset_and_hazards.md R460): the core register written,
and PSW as it was. Log entry 13. -/
def State.noteWrite (s : State) (pa : PhysAddr) (before : State) : State :=
  match classify before.cfg pa with
  | .core .psw => { s with lastWrites := .psw :: s.lastWrites, pswBefore := before.psw }
  | .core r => { s with lastWrites := r :: s.lastWrites }
  | _ => s

/-- The write of a WORD destination operand (R67). -/
def writeDstW (pa : PhysAddr) (v : Word) (s : State) : Res State := do
  let t ← memWriteW pa v s
  .ok (t.noteWrite pa s)

/-- The write of a BYTE destination operand (R67). -/
def writeDstB (pa : PhysAddr) (v : Byte) (s : State) : Res State := do
  let t ← memWriteB pa v s
  .ok (t.noteWrite pa s)

/-- The write of a WORD destination operand and then its post-increment (R77). -/
def putDstW (dst : Loc) (pa : PhysAddr) (v : Word) (s : State) : Res State := do
  let t ← writeDstW pa v s
  if dst.ownPointer pa s then .ok t else dst.after .word t

/-- The write of a BYTE destination operand and then its post-increment (R77). -/
def putDstB (dst : Loc) (pa : PhysAddr) (v : Byte) (s : State) : Res State := do
  let t ← writeDstB pa v s
  if dst.ownPointer pa s then .ok t else dst.after .byte t

/-- The flags of an instruction with its destination at `pa`, written last (R77); where the destination is PSW they are
lost (R68). -/
def State.flagsLast (s : State) (pa : PhysAddr) (f : Flags) : State :=
  match classify s.cfg pa with
  | .core .psw => s
  | _ => s.setFlags f

end Sys2Proof.Machine
end

