-- ==== Sys2Proof/Machine/ArithLogic.lean ====
section
/-! DEFINITION. Arithmetic, logic and compare (40_arith_logic.md R140 to R170). -/

namespace Sys2Proof.Machine

/-- The eight two-operand groups (R140, R141). -/
inductive AluOp where
  | add | addc | sub | subc | cmp | xor | and | or
  deriving DecidableEq, Repr

/-- Flags of ADDC and SUBC: Z stays set only if it was set (R147, R165). -/
def stickyZ (old : Flags) (x : BitVec w × Flags) : BitVec w × Flags := (x.1, { x.2 with z := x.2.z && old.z })

/-- The result and the flags of a group, `a` being op1 and `b` op2 as read (R142 to R144, R145 to R168). -/
def AluOp.compute {w : Nat} (op : AluOp) (a b : BitVec w) (old : Flags) : BitVec w × Flags :=
  match op with
  | .add => addFlags a b false
  | .addc => stickyZ old (addFlags a b old.c)
  | .sub => subFlags a b false
  | .subc => stickyZ old (subFlags a b old.c)
  | .cmp => subFlags a b false
  | .xor => (a ^^^ b, logicFlags b (a ^^^ b))
  | .and => (a &&& b, logicFlags b (a &&& b))
  | .or => (a ||| b, logicFlags b (a ||| b))

/-- A WORD group (R140): op1, op2 with its post-increment, then the flags and op1. CMP writes no operand. The flags go
in before op1 so that a write of PSW as op1 stands (20_memory.md R68). -/
def aluW (op : AluOp) (dst : Loc) (src : Src 16) (len : Nat) (s : State) : Res State := do
  let (pa, s) ← dst.addr .word s
  let (a, s) ← memReadW pa s
  let (b, s) ← readSrcW src s
  let x := op.compute a b s.flags
  let s := s.setFlags x.2
  let s ← (if op = .cmp then .ok s else writeDstW pa x.1 s : Res State)
  .ok (s.advance len)

/-- A BYTE group (R141), in the order of `aluW`. -/
def aluB (op : AluOp) (dst : Loc) (src : Src 8) (len : Nat) (s : State) : Res State := do
  let (pa, s) ← dst.addr .byte s
  let (a, s) ← memReadB pa s
  let (b, s) ← readSrcB src s
  let x := op.compute a b s.flags
  let s := s.setFlags x.2
  let s ← (if op = .cmp then .ok s else writeDstB pa x.1 s : Res State)
  .ok (s.advance len)

/-- CMPD1, CMPD2, CMPI1, CMPI2 (R153 to R156): the flags of op1 - op2, then op1 moves by `δ`. -/
def compareStep (δ : Word) (n : BitVec 4) (src : Src 16) (len : Nat) (s : State) : Res State := do
  let (a, s) ← readGpr n s
  let (b, s) ← readSrcW src s
  let s := s.setFlags (subFlags a b false).2
  let s ← writeDstW (gprAddr s n) (a + δ) s
  .ok (s.advance len)

/-- The one-operand instructions. -/
inductive UnaryOp where
  | cpl | neg
  deriving DecidableEq, Repr

/-- The result and the flags of CPL and NEG (R157, R159). -/
def UnaryOp.compute {w : Nat} (op : UnaryOp) (a : BitVec w) : BitVec w × Flags :=
  match op with
  | .cpl => (~~~a, logicFlags a (~~~a))
  | .neg => subFlags 0 a false

/-- CPL, NEG (R157, R159). -/
def unaryW (op : UnaryOp) (n : BitVec 4) (s : State) : Res State := do
  let (a, s) ← readGpr n s
  let x := op.compute a
  let s ← writeDstW (gprAddr s n) x.1 (s.setFlags x.2)
  .ok (s.advance 2)

/-- CPLB, NEGB (R158, R160). -/
def unaryB (op : UnaryOp) (n : BitVec 4) (s : State) : Res State := do
  let (a, s) ← memReadB (gprByteAddr s n) s
  let x := op.compute a
  let s ← writeDstB (gprByteAddr s n) x.1 (s.setFlags x.2)
  .ok (s.advance 2)


/-- ADD Rw_n, Rw_m, `00 nm` (R145). -/
def execAddRwRw (n m : BitVec 4) (s : State) : StepOutcome :=
  finish s (aluW .add (.rw n) (.loc (.rw m)) 2 s)

/-- ADD Rw_n, [Rw_i], `08 n:10ii` (R145). -/
def execAddRwInd (n : BitVec 4) (i : BitVec 2) (s : State) : StepOutcome :=
  finish s (aluW .add (.rw n) (.loc (.ind (i.setWidth 4))) 2 s)

/-- ADD Rw_n, [Rw_i+], `08 n:11ii` (R145). -/
def execAddRwIndInc (n : BitVec 4) (i : BitVec 2) (s : State) : StepOutcome :=
  finish s (aluW .add (.rw n) (.loc (.indInc (i.setWidth 4))) 2 s)

/-- ADD Rw_n, #data3, `08 n:0###` (R145). -/
def execAddRwData3 (n : BitVec 4) (d : BitVec 3) (s : State) : StepOutcome :=
  finish s (aluW .add (.rw n) (.imm (d.setWidth 16)) 2 s)

/-- ADD reg, #data16, `06 RR ## ##` (R145). -/
def execAddRegData16 (r : Byte) (d : Word) (s : State) : StepOutcome :=
  finish s (aluW .add (.reg r) (.imm d) 4 s)

/-- ADD reg, mem, `02 RR MM MM` (R145). -/
def execAddRegMem (r : Byte) (a : Word) (s : State) : StepOutcome :=
  finish s (aluW .add (.reg r) (.loc (.mem a)) 4 s)

/-- ADD mem, reg, `04 RR MM MM` (R145). -/
def execAddMemReg (a : Word) (r : Byte) (s : State) : StepOutcome :=
  finish s (aluW .add (.mem a) (.loc (.reg r)) 4 s)

/-- ADDB Rb_n, Rb_m, `01 nm` (R146). -/
def execAddbRbRb (n m : BitVec 4) (s : State) : StepOutcome :=
  finish s (aluB .add (.rb n) (.loc (.rb m)) 2 s)

/-- ADDB Rb_n, [Rw_i], `09 n:10ii` (R146). -/
def execAddbRbInd (n : BitVec 4) (i : BitVec 2) (s : State) : StepOutcome :=
  finish s (aluB .add (.rb n) (.loc (.ind (i.setWidth 4))) 2 s)

/-- ADDB Rb_n, [Rw_i+], `09 n:11ii` (R146). -/
def execAddbRbIndInc (n : BitVec 4) (i : BitVec 2) (s : State) : StepOutcome :=
  finish s (aluB .add (.rb n) (.loc (.indInc (i.setWidth 4))) 2 s)

/-- ADDB Rb_n, #data3, `09 n:0###` (R146). -/
def execAddbRbData3 (n : BitVec 4) (d : BitVec 3) (s : State) : StepOutcome :=
  finish s (aluB .add (.rb n) (.imm (d.setWidth 8)) 2 s)

/-- ADDB reg, #data8, `07 RR ## xx` (R146). -/
def execAddbRegData8 (r d : Byte) (s : State) : StepOutcome :=
  finish s (aluB .add (.reg r) (.imm d) 4 s)

/-- ADDB reg, mem, `03 RR MM MM` (R146). -/
def execAddbRegMem (r : Byte) (a : Word) (s : State) : StepOutcome :=
  finish s (aluB .add (.reg r) (.loc (.mem a)) 4 s)

/-- ADDB mem, reg, `05 RR MM MM` (R146). -/
def execAddbMemReg (a : Word) (r : Byte) (s : State) : StepOutcome :=
  finish s (aluB .add (.mem a) (.loc (.reg r)) 4 s)

/-- ADDC Rw_n, Rw_m, `10 nm` (R147). -/
def execAddcRwRw (n m : BitVec 4) (s : State) : StepOutcome :=
  finish s (aluW .addc (.rw n) (.loc (.rw m)) 2 s)

/-- ADDC Rw_n, [Rw_i], `18 n:10ii` (R147). -/
def execAddcRwInd (n : BitVec 4) (i : BitVec 2) (s : State) : StepOutcome :=
  finish s (aluW .addc (.rw n) (.loc (.ind (i.setWidth 4))) 2 s)

/-- ADDC Rw_n, [Rw_i+], `18 n:11ii` (R147). -/
def execAddcRwIndInc (n : BitVec 4) (i : BitVec 2) (s : State) : StepOutcome :=
  finish s (aluW .addc (.rw n) (.loc (.indInc (i.setWidth 4))) 2 s)

/-- ADDC Rw_n, #data3, `18 n:0###` (R147). -/
def execAddcRwData3 (n : BitVec 4) (d : BitVec 3) (s : State) : StepOutcome :=
  finish s (aluW .addc (.rw n) (.imm (d.setWidth 16)) 2 s)

/-- ADDC reg, #data16, `16 RR ## ##` (R147). -/
def execAddcRegData16 (r : Byte) (d : Word) (s : State) : StepOutcome :=
  finish s (aluW .addc (.reg r) (.imm d) 4 s)

/-- ADDC reg, mem, `12 RR MM MM` (R147). -/
def execAddcRegMem (r : Byte) (a : Word) (s : State) : StepOutcome :=
  finish s (aluW .addc (.reg r) (.loc (.mem a)) 4 s)

/-- ADDC mem, reg, `14 RR MM MM` (R147). -/
def execAddcMemReg (a : Word) (r : Byte) (s : State) : StepOutcome :=
  finish s (aluW .addc (.mem a) (.loc (.reg r)) 4 s)

/-- ADDCB Rb_n, Rb_m, `11 nm` (R148). -/
def execAddcbRbRb (n m : BitVec 4) (s : State) : StepOutcome :=
  finish s (aluB .addc (.rb n) (.loc (.rb m)) 2 s)

/-- ADDCB Rb_n, [Rw_i], `19 n:10ii` (R148). -/
def execAddcbRbInd (n : BitVec 4) (i : BitVec 2) (s : State) : StepOutcome :=
  finish s (aluB .addc (.rb n) (.loc (.ind (i.setWidth 4))) 2 s)

/-- ADDCB Rb_n, [Rw_i+], `19 n:11ii` (R148). -/
def execAddcbRbIndInc (n : BitVec 4) (i : BitVec 2) (s : State) : StepOutcome :=
  finish s (aluB .addc (.rb n) (.loc (.indInc (i.setWidth 4))) 2 s)

/-- ADDCB Rb_n, #data3, `19 n:0###` (R148). -/
def execAddcbRbData3 (n : BitVec 4) (d : BitVec 3) (s : State) : StepOutcome :=
  finish s (aluB .addc (.rb n) (.imm (d.setWidth 8)) 2 s)

/-- ADDCB reg, #data8, `17 RR ## xx` (R148). -/
def execAddcbRegData8 (r d : Byte) (s : State) : StepOutcome :=
  finish s (aluB .addc (.reg r) (.imm d) 4 s)

/-- ADDCB reg, mem, `13 RR MM MM` (R148). -/
def execAddcbRegMem (r : Byte) (a : Word) (s : State) : StepOutcome :=
  finish s (aluB .addc (.reg r) (.loc (.mem a)) 4 s)

/-- ADDCB mem, reg, `15 RR MM MM` (R148). -/
def execAddcbMemReg (a : Word) (r : Byte) (s : State) : StepOutcome :=
  finish s (aluB .addc (.mem a) (.loc (.reg r)) 4 s)

/-- SUB Rw_n, Rw_m, `20 nm` (R163). -/
def execSubRwRw (n m : BitVec 4) (s : State) : StepOutcome :=
  finish s (aluW .sub (.rw n) (.loc (.rw m)) 2 s)

/-- SUB Rw_n, [Rw_i], `28 n:10ii` (R163). -/
def execSubRwInd (n : BitVec 4) (i : BitVec 2) (s : State) : StepOutcome :=
  finish s (aluW .sub (.rw n) (.loc (.ind (i.setWidth 4))) 2 s)

/-- SUB Rw_n, [Rw_i+], `28 n:11ii` (R163). -/
def execSubRwIndInc (n : BitVec 4) (i : BitVec 2) (s : State) : StepOutcome :=
  finish s (aluW .sub (.rw n) (.loc (.indInc (i.setWidth 4))) 2 s)

/-- SUB Rw_n, #data3, `28 n:0###` (R163). -/
def execSubRwData3 (n : BitVec 4) (d : BitVec 3) (s : State) : StepOutcome :=
  finish s (aluW .sub (.rw n) (.imm (d.setWidth 16)) 2 s)

/-- SUB reg, #data16, `26 RR ## ##` (R163). -/
def execSubRegData16 (r : Byte) (d : Word) (s : State) : StepOutcome :=
  finish s (aluW .sub (.reg r) (.imm d) 4 s)

/-- SUB reg, mem, `22 RR MM MM` (R163). -/
def execSubRegMem (r : Byte) (a : Word) (s : State) : StepOutcome :=
  finish s (aluW .sub (.reg r) (.loc (.mem a)) 4 s)

/-- SUB mem, reg, `24 RR MM MM` (R163). -/
def execSubMemReg (a : Word) (r : Byte) (s : State) : StepOutcome :=
  finish s (aluW .sub (.mem a) (.loc (.reg r)) 4 s)

/-- SUBB Rb_n, Rb_m, `21 nm` (R164). -/
def execSubbRbRb (n m : BitVec 4) (s : State) : StepOutcome :=
  finish s (aluB .sub (.rb n) (.loc (.rb m)) 2 s)

/-- SUBB Rb_n, [Rw_i], `29 n:10ii` (R164). -/
def execSubbRbInd (n : BitVec 4) (i : BitVec 2) (s : State) : StepOutcome :=
  finish s (aluB .sub (.rb n) (.loc (.ind (i.setWidth 4))) 2 s)

/-- SUBB Rb_n, [Rw_i+], `29 n:11ii` (R164). -/
def execSubbRbIndInc (n : BitVec 4) (i : BitVec 2) (s : State) : StepOutcome :=
  finish s (aluB .sub (.rb n) (.loc (.indInc (i.setWidth 4))) 2 s)

/-- SUBB Rb_n, #data3, `29 n:0###` (R164). -/
def execSubbRbData3 (n : BitVec 4) (d : BitVec 3) (s : State) : StepOutcome :=
  finish s (aluB .sub (.rb n) (.imm (d.setWidth 8)) 2 s)

/-- SUBB reg, #data8, `27 RR ## xx` (R164). -/
def execSubbRegData8 (r d : Byte) (s : State) : StepOutcome :=
  finish s (aluB .sub (.reg r) (.imm d) 4 s)

/-- SUBB reg, mem, `23 RR MM MM` (R164). -/
def execSubbRegMem (r : Byte) (a : Word) (s : State) : StepOutcome :=
  finish s (aluB .sub (.reg r) (.loc (.mem a)) 4 s)

/-- SUBB mem, reg, `25 RR MM MM` (R164). -/
def execSubbMemReg (a : Word) (r : Byte) (s : State) : StepOutcome :=
  finish s (aluB .sub (.mem a) (.loc (.reg r)) 4 s)

/-- SUBC Rw_n, Rw_m, `30 nm` (R165). -/
def execSubcRwRw (n m : BitVec 4) (s : State) : StepOutcome :=
  finish s (aluW .subc (.rw n) (.loc (.rw m)) 2 s)

/-- SUBC Rw_n, [Rw_i], `38 n:10ii` (R165). -/
def execSubcRwInd (n : BitVec 4) (i : BitVec 2) (s : State) : StepOutcome :=
  finish s (aluW .subc (.rw n) (.loc (.ind (i.setWidth 4))) 2 s)

/-- SUBC Rw_n, [Rw_i+], `38 n:11ii` (R165). -/
def execSubcRwIndInc (n : BitVec 4) (i : BitVec 2) (s : State) : StepOutcome :=
  finish s (aluW .subc (.rw n) (.loc (.indInc (i.setWidth 4))) 2 s)

/-- SUBC Rw_n, #data3, `38 n:0###` (R165). -/
def execSubcRwData3 (n : BitVec 4) (d : BitVec 3) (s : State) : StepOutcome :=
  finish s (aluW .subc (.rw n) (.imm (d.setWidth 16)) 2 s)

/-- SUBC reg, #data16, `36 RR ## ##` (R165). -/
def execSubcRegData16 (r : Byte) (d : Word) (s : State) : StepOutcome :=
  finish s (aluW .subc (.reg r) (.imm d) 4 s)

/-- SUBC reg, mem, `32 RR MM MM` (R165). -/
def execSubcRegMem (r : Byte) (a : Word) (s : State) : StepOutcome :=
  finish s (aluW .subc (.reg r) (.loc (.mem a)) 4 s)

/-- SUBC mem, reg, `34 RR MM MM` (R165). -/
def execSubcMemReg (a : Word) (r : Byte) (s : State) : StepOutcome :=
  finish s (aluW .subc (.mem a) (.loc (.reg r)) 4 s)

/-- SUBCB Rb_n, Rb_m, `31 nm` (R166). -/
def execSubcbRbRb (n m : BitVec 4) (s : State) : StepOutcome :=
  finish s (aluB .subc (.rb n) (.loc (.rb m)) 2 s)

/-- SUBCB Rb_n, [Rw_i], `39 n:10ii` (R166). -/
def execSubcbRbInd (n : BitVec 4) (i : BitVec 2) (s : State) : StepOutcome :=
  finish s (aluB .subc (.rb n) (.loc (.ind (i.setWidth 4))) 2 s)

/-- SUBCB Rb_n, [Rw_i+], `39 n:11ii` (R166). -/
def execSubcbRbIndInc (n : BitVec 4) (i : BitVec 2) (s : State) : StepOutcome :=
  finish s (aluB .subc (.rb n) (.loc (.indInc (i.setWidth 4))) 2 s)

/-- SUBCB Rb_n, #data3, `39 n:0###` (R166). -/
def execSubcbRbData3 (n : BitVec 4) (d : BitVec 3) (s : State) : StepOutcome :=
  finish s (aluB .subc (.rb n) (.imm (d.setWidth 8)) 2 s)

/-- SUBCB reg, #data8, `37 RR ## xx` (R166). -/
def execSubcbRegData8 (r d : Byte) (s : State) : StepOutcome :=
  finish s (aluB .subc (.reg r) (.imm d) 4 s)

/-- SUBCB reg, mem, `33 RR MM MM` (R166). -/
def execSubcbRegMem (r : Byte) (a : Word) (s : State) : StepOutcome :=
  finish s (aluB .subc (.reg r) (.loc (.mem a)) 4 s)

/-- SUBCB mem, reg, `35 RR MM MM` (R166). -/
def execSubcbMemReg (a : Word) (r : Byte) (s : State) : StepOutcome :=
  finish s (aluB .subc (.mem a) (.loc (.reg r)) 4 s)

/-- CMP Rw_n, Rw_m, `40 nm` (R151). -/
def execCmpRwRw (n m : BitVec 4) (s : State) : StepOutcome :=
  finish s (aluW .cmp (.rw n) (.loc (.rw m)) 2 s)

/-- CMP Rw_n, [Rw_i], `48 n:10ii` (R151). -/
def execCmpRwInd (n : BitVec 4) (i : BitVec 2) (s : State) : StepOutcome :=
  finish s (aluW .cmp (.rw n) (.loc (.ind (i.setWidth 4))) 2 s)

/-- CMP Rw_n, [Rw_i+], `48 n:11ii` (R151). -/
def execCmpRwIndInc (n : BitVec 4) (i : BitVec 2) (s : State) : StepOutcome :=
  finish s (aluW .cmp (.rw n) (.loc (.indInc (i.setWidth 4))) 2 s)

/-- CMP Rw_n, #data3, `48 n:0###` (R151). -/
def execCmpRwData3 (n : BitVec 4) (d : BitVec 3) (s : State) : StepOutcome :=
  finish s (aluW .cmp (.rw n) (.imm (d.setWidth 16)) 2 s)

/-- CMP reg, #data16, `46 RR ## ##` (R151). -/
def execCmpRegData16 (r : Byte) (d : Word) (s : State) : StepOutcome :=
  finish s (aluW .cmp (.reg r) (.imm d) 4 s)

/-- CMP reg, mem, `42 RR MM MM` (R151). -/
def execCmpRegMem (r : Byte) (a : Word) (s : State) : StepOutcome :=
  finish s (aluW .cmp (.reg r) (.loc (.mem a)) 4 s)

/-- CMPB Rb_n, Rb_m, `41 nm` (R152). -/
def execCmpbRbRb (n m : BitVec 4) (s : State) : StepOutcome :=
  finish s (aluB .cmp (.rb n) (.loc (.rb m)) 2 s)

/-- CMPB Rb_n, [Rw_i], `49 n:10ii` (R152). -/
def execCmpbRbInd (n : BitVec 4) (i : BitVec 2) (s : State) : StepOutcome :=
  finish s (aluB .cmp (.rb n) (.loc (.ind (i.setWidth 4))) 2 s)

/-- CMPB Rb_n, [Rw_i+], `49 n:11ii` (R152). -/
def execCmpbRbIndInc (n : BitVec 4) (i : BitVec 2) (s : State) : StepOutcome :=
  finish s (aluB .cmp (.rb n) (.loc (.indInc (i.setWidth 4))) 2 s)

/-- CMPB Rb_n, #data3, `49 n:0###` (R152). -/
def execCmpbRbData3 (n : BitVec 4) (d : BitVec 3) (s : State) : StepOutcome :=
  finish s (aluB .cmp (.rb n) (.imm (d.setWidth 8)) 2 s)

/-- CMPB reg, #data8, `47 RR ## xx` (R152). -/
def execCmpbRegData8 (r d : Byte) (s : State) : StepOutcome :=
  finish s (aluB .cmp (.reg r) (.imm d) 4 s)

/-- CMPB reg, mem, `43 RR MM MM` (R152). -/
def execCmpbRegMem (r : Byte) (a : Word) (s : State) : StepOutcome :=
  finish s (aluB .cmp (.reg r) (.loc (.mem a)) 4 s)

/-- XOR Rw_n, Rw_m, `50 nm` (R167). -/
def execXorRwRw (n m : BitVec 4) (s : State) : StepOutcome :=
  finish s (aluW .xor (.rw n) (.loc (.rw m)) 2 s)

/-- XOR Rw_n, [Rw_i], `58 n:10ii` (R167). -/
def execXorRwInd (n : BitVec 4) (i : BitVec 2) (s : State) : StepOutcome :=
  finish s (aluW .xor (.rw n) (.loc (.ind (i.setWidth 4))) 2 s)

/-- XOR Rw_n, [Rw_i+], `58 n:11ii` (R167). -/
def execXorRwIndInc (n : BitVec 4) (i : BitVec 2) (s : State) : StepOutcome :=
  finish s (aluW .xor (.rw n) (.loc (.indInc (i.setWidth 4))) 2 s)

/-- XOR Rw_n, #data3, `58 n:0###` (R167). -/
def execXorRwData3 (n : BitVec 4) (d : BitVec 3) (s : State) : StepOutcome :=
  finish s (aluW .xor (.rw n) (.imm (d.setWidth 16)) 2 s)

/-- XOR reg, #data16, `56 RR ## ##` (R167). -/
def execXorRegData16 (r : Byte) (d : Word) (s : State) : StepOutcome :=
  finish s (aluW .xor (.reg r) (.imm d) 4 s)

/-- XOR reg, mem, `52 RR MM MM` (R167). -/
def execXorRegMem (r : Byte) (a : Word) (s : State) : StepOutcome :=
  finish s (aluW .xor (.reg r) (.loc (.mem a)) 4 s)

/-- XOR mem, reg, `54 RR MM MM` (R167). -/
def execXorMemReg (a : Word) (r : Byte) (s : State) : StepOutcome :=
  finish s (aluW .xor (.mem a) (.loc (.reg r)) 4 s)

/-- XORB Rb_n, Rb_m, `51 nm` (R168). -/
def execXorbRbRb (n m : BitVec 4) (s : State) : StepOutcome :=
  finish s (aluB .xor (.rb n) (.loc (.rb m)) 2 s)

/-- XORB Rb_n, [Rw_i], `59 n:10ii` (R168). -/
def execXorbRbInd (n : BitVec 4) (i : BitVec 2) (s : State) : StepOutcome :=
  finish s (aluB .xor (.rb n) (.loc (.ind (i.setWidth 4))) 2 s)

/-- XORB Rb_n, [Rw_i+], `59 n:11ii` (R168). -/
def execXorbRbIndInc (n : BitVec 4) (i : BitVec 2) (s : State) : StepOutcome :=
  finish s (aluB .xor (.rb n) (.loc (.indInc (i.setWidth 4))) 2 s)

/-- XORB Rb_n, #data3, `59 n:0###` (R168). -/
def execXorbRbData3 (n : BitVec 4) (d : BitVec 3) (s : State) : StepOutcome :=
  finish s (aluB .xor (.rb n) (.imm (d.setWidth 8)) 2 s)

/-- XORB reg, #data8, `57 RR ## xx` (R168). -/
def execXorbRegData8 (r d : Byte) (s : State) : StepOutcome :=
  finish s (aluB .xor (.reg r) (.imm d) 4 s)

/-- XORB reg, mem, `53 RR MM MM` (R168). -/
def execXorbRegMem (r : Byte) (a : Word) (s : State) : StepOutcome :=
  finish s (aluB .xor (.reg r) (.loc (.mem a)) 4 s)

/-- XORB mem, reg, `55 RR MM MM` (R168). -/
def execXorbMemReg (a : Word) (r : Byte) (s : State) : StepOutcome :=
  finish s (aluB .xor (.mem a) (.loc (.reg r)) 4 s)

/-- AND Rw_n, Rw_m, `60 nm` (R149). -/
def execAndRwRw (n m : BitVec 4) (s : State) : StepOutcome :=
  finish s (aluW .and (.rw n) (.loc (.rw m)) 2 s)

/-- AND Rw_n, [Rw_i], `68 n:10ii` (R149). -/
def execAndRwInd (n : BitVec 4) (i : BitVec 2) (s : State) : StepOutcome :=
  finish s (aluW .and (.rw n) (.loc (.ind (i.setWidth 4))) 2 s)

/-- AND Rw_n, [Rw_i+], `68 n:11ii` (R149). -/
def execAndRwIndInc (n : BitVec 4) (i : BitVec 2) (s : State) : StepOutcome :=
  finish s (aluW .and (.rw n) (.loc (.indInc (i.setWidth 4))) 2 s)

/-- AND Rw_n, #data3, `68 n:0###` (R149). -/
def execAndRwData3 (n : BitVec 4) (d : BitVec 3) (s : State) : StepOutcome :=
  finish s (aluW .and (.rw n) (.imm (d.setWidth 16)) 2 s)

/-- AND reg, #data16, `66 RR ## ##` (R149). -/
def execAndRegData16 (r : Byte) (d : Word) (s : State) : StepOutcome :=
  finish s (aluW .and (.reg r) (.imm d) 4 s)

/-- AND reg, mem, `62 RR MM MM` (R149). -/
def execAndRegMem (r : Byte) (a : Word) (s : State) : StepOutcome :=
  finish s (aluW .and (.reg r) (.loc (.mem a)) 4 s)

/-- AND mem, reg, `64 RR MM MM` (R149). -/
def execAndMemReg (a : Word) (r : Byte) (s : State) : StepOutcome :=
  finish s (aluW .and (.mem a) (.loc (.reg r)) 4 s)

/-- ANDB Rb_n, Rb_m, `61 nm` (R150). -/
def execAndbRbRb (n m : BitVec 4) (s : State) : StepOutcome :=
  finish s (aluB .and (.rb n) (.loc (.rb m)) 2 s)

/-- ANDB Rb_n, [Rw_i], `69 n:10ii` (R150). -/
def execAndbRbInd (n : BitVec 4) (i : BitVec 2) (s : State) : StepOutcome :=
  finish s (aluB .and (.rb n) (.loc (.ind (i.setWidth 4))) 2 s)

/-- ANDB Rb_n, [Rw_i+], `69 n:11ii` (R150). -/
def execAndbRbIndInc (n : BitVec 4) (i : BitVec 2) (s : State) : StepOutcome :=
  finish s (aluB .and (.rb n) (.loc (.indInc (i.setWidth 4))) 2 s)

/-- ANDB Rb_n, #data3, `69 n:0###` (R150). -/
def execAndbRbData3 (n : BitVec 4) (d : BitVec 3) (s : State) : StepOutcome :=
  finish s (aluB .and (.rb n) (.imm (d.setWidth 8)) 2 s)

/-- ANDB reg, #data8, `67 RR ## xx` (R150). -/
def execAndbRegData8 (r d : Byte) (s : State) : StepOutcome :=
  finish s (aluB .and (.reg r) (.imm d) 4 s)

/-- ANDB reg, mem, `63 RR MM MM` (R150). -/
def execAndbRegMem (r : Byte) (a : Word) (s : State) : StepOutcome :=
  finish s (aluB .and (.reg r) (.loc (.mem a)) 4 s)

/-- ANDB mem, reg, `65 RR MM MM` (R150). -/
def execAndbMemReg (a : Word) (r : Byte) (s : State) : StepOutcome :=
  finish s (aluB .and (.mem a) (.loc (.reg r)) 4 s)

/-- OR Rw_n, Rw_m, `70 nm` (R161). -/
def execOrRwRw (n m : BitVec 4) (s : State) : StepOutcome :=
  finish s (aluW .or (.rw n) (.loc (.rw m)) 2 s)

/-- OR Rw_n, [Rw_i], `78 n:10ii` (R161). -/
def execOrRwInd (n : BitVec 4) (i : BitVec 2) (s : State) : StepOutcome :=
  finish s (aluW .or (.rw n) (.loc (.ind (i.setWidth 4))) 2 s)

/-- OR Rw_n, [Rw_i+], `78 n:11ii` (R161). -/
def execOrRwIndInc (n : BitVec 4) (i : BitVec 2) (s : State) : StepOutcome :=
  finish s (aluW .or (.rw n) (.loc (.indInc (i.setWidth 4))) 2 s)

/-- OR Rw_n, #data3, `78 n:0###` (R161). -/
def execOrRwData3 (n : BitVec 4) (d : BitVec 3) (s : State) : StepOutcome :=
  finish s (aluW .or (.rw n) (.imm (d.setWidth 16)) 2 s)

/-- OR reg, #data16, `76 RR ## ##` (R161). -/
def execOrRegData16 (r : Byte) (d : Word) (s : State) : StepOutcome :=
  finish s (aluW .or (.reg r) (.imm d) 4 s)

/-- OR reg, mem, `72 RR MM MM` (R161). -/
def execOrRegMem (r : Byte) (a : Word) (s : State) : StepOutcome :=
  finish s (aluW .or (.reg r) (.loc (.mem a)) 4 s)

/-- OR mem, reg, `74 RR MM MM` (R161). -/
def execOrMemReg (a : Word) (r : Byte) (s : State) : StepOutcome :=
  finish s (aluW .or (.mem a) (.loc (.reg r)) 4 s)

/-- ORB Rb_n, Rb_m, `71 nm` (R162). -/
def execOrbRbRb (n m : BitVec 4) (s : State) : StepOutcome :=
  finish s (aluB .or (.rb n) (.loc (.rb m)) 2 s)

/-- ORB Rb_n, [Rw_i], `79 n:10ii` (R162). -/
def execOrbRbInd (n : BitVec 4) (i : BitVec 2) (s : State) : StepOutcome :=
  finish s (aluB .or (.rb n) (.loc (.ind (i.setWidth 4))) 2 s)

/-- ORB Rb_n, [Rw_i+], `79 n:11ii` (R162). -/
def execOrbRbIndInc (n : BitVec 4) (i : BitVec 2) (s : State) : StepOutcome :=
  finish s (aluB .or (.rb n) (.loc (.indInc (i.setWidth 4))) 2 s)

/-- ORB Rb_n, #data3, `79 n:0###` (R162). -/
def execOrbRbData3 (n : BitVec 4) (d : BitVec 3) (s : State) : StepOutcome :=
  finish s (aluB .or (.rb n) (.imm (d.setWidth 8)) 2 s)

/-- ORB reg, #data8, `77 RR ## xx` (R162). -/
def execOrbRegData8 (r d : Byte) (s : State) : StepOutcome :=
  finish s (aluB .or (.reg r) (.imm d) 4 s)

/-- ORB reg, mem, `73 RR MM MM` (R162). -/
def execOrbRegMem (r : Byte) (a : Word) (s : State) : StepOutcome :=
  finish s (aluB .or (.reg r) (.loc (.mem a)) 4 s)

/-- ORB mem, reg, `75 RR MM MM` (R162). -/
def execOrbMemReg (a : Word) (r : Byte) (s : State) : StepOutcome :=
  finish s (aluB .or (.mem a) (.loc (.reg r)) 4 s)

/-- CMPI1 Rw_n, #data4, `80 #n` (R155). -/
def execCmpi1RwData4 (n d : BitVec 4) (s : State) : StepOutcome :=
  finish s (compareStep 1 n (.imm (d.setWidth 16)) 2 s)

/-- CMPI1 Rw_n, #data16, `86 Fn ## ##` (R155). -/
def execCmpi1RwData16 (n : BitVec 4) (d : Word) (s : State) : StepOutcome :=
  finish s (compareStep 1 n (.imm d) 4 s)

/-- CMPI1 Rw_n, mem, `82 Fn MM MM` (R155). -/
def execCmpi1RwMem (n : BitVec 4) (a : Word) (s : State) : StepOutcome :=
  finish s (compareStep 1 n (.loc (.mem a)) 4 s)

/-- CMPI2 Rw_n, #data4, `90 #n` (R156). -/
def execCmpi2RwData4 (n d : BitVec 4) (s : State) : StepOutcome :=
  finish s (compareStep 2 n (.imm (d.setWidth 16)) 2 s)

/-- CMPI2 Rw_n, #data16, `96 Fn ## ##` (R156). -/
def execCmpi2RwData16 (n : BitVec 4) (d : Word) (s : State) : StepOutcome :=
  finish s (compareStep 2 n (.imm d) 4 s)

/-- CMPI2 Rw_n, mem, `92 Fn MM MM` (R156). -/
def execCmpi2RwMem (n : BitVec 4) (a : Word) (s : State) : StepOutcome :=
  finish s (compareStep 2 n (.loc (.mem a)) 4 s)

/-- CMPD1 Rw_n, #data4, `A0 #n` (R153). -/
def execCmpd1RwData4 (n d : BitVec 4) (s : State) : StepOutcome :=
  finish s (compareStep (-1) n (.imm (d.setWidth 16)) 2 s)

/-- CMPD1 Rw_n, #data16, `A6 Fn ## ##` (R153). -/
def execCmpd1RwData16 (n : BitVec 4) (d : Word) (s : State) : StepOutcome :=
  finish s (compareStep (-1) n (.imm d) 4 s)

/-- CMPD1 Rw_n, mem, `A2 Fn MM MM` (R153). -/
def execCmpd1RwMem (n : BitVec 4) (a : Word) (s : State) : StepOutcome :=
  finish s (compareStep (-1) n (.loc (.mem a)) 4 s)

/-- CMPD2 Rw_n, #data4, `B0 #n` (R154). -/
def execCmpd2RwData4 (n d : BitVec 4) (s : State) : StepOutcome :=
  finish s (compareStep (-2) n (.imm (d.setWidth 16)) 2 s)

/-- CMPD2 Rw_n, #data16, `B6 Fn ## ##` (R154). -/
def execCmpd2RwData16 (n : BitVec 4) (d : Word) (s : State) : StepOutcome :=
  finish s (compareStep (-2) n (.imm d) 4 s)

/-- CMPD2 Rw_n, mem, `B2 Fn MM MM` (R154). -/
def execCmpd2RwMem (n : BitVec 4) (a : Word) (s : State) : StepOutcome :=
  finish s (compareStep (-2) n (.loc (.mem a)) 4 s)

/-- NEG Rw_n, `81 n0` (R159). -/
def execNeg (n : BitVec 4) (s : State) : StepOutcome :=
  finish s (unaryW .neg n s)

/-- CPL Rw_n, `91 n0` (R157). -/
def execCpl (n : BitVec 4) (s : State) : StepOutcome :=
  finish s (unaryW .cpl n s)

/-- NEGB Rb_n, `A1 n0` (R160). -/
def execNegb (n : BitVec 4) (s : State) : StepOutcome :=
  finish s (unaryB .neg n s)

/-- CPLB Rb_n, `B1 n0` (R158). -/
def execCplb (n : BitVec 4) (s : State) : StepOutcome :=
  finish s (unaryB .cpl n s)

end Sys2Proof.Machine
end

