-- ==== Sys2Proof/Machine/AtomicExt.lean ====
section
/-! DEFINITION. ATOMIC and the EXTx instructions (42_atomic_ext.md R220 to R228). -/

namespace Sys2Proof.Machine

/-- The data-address override a sequence instruction sets (R221 to R226). -/
inductive Override where
  | none
  | page (p : BitVec 10)
  | seg (sg : Byte)
  deriving DecidableEq, Repr

/-- Which part of a register gives the override (R223, R225). -/
inductive OverrideKind where
  | page
  | seg
  deriving DecidableEq, Repr

/-- The override a register's content gives: its low 10 bits, or its low `SEG_BITS` bits (R223, R225). -/
def OverrideKind.ofWord (k : OverrideKind) (d : Device) (w : Word) : Override :=
  match k with
  | .page => .page (w.extractLsb' 0 10)
  | .seg => .seg ((maskSeg d w).extractLsb' 0 8)

/-- The sequence state a sequence instruction sets: g + 1 instructions (R220 item 1). -/
def sequenceState (g : BitVec 2) (esfr : Bool) (o : Override) : Seq :=
  match o with
  | .none => { count := g.toNat + 1, esfr := esfr }
  | .page p => { count := g.toNat + 1, esfr := esfr, page := some p }
  | .seg sg => { count := g.toNat + 1, esfr := esfr, seg := some sg }

/-- The start of a sequence (R220); inside a running one it is refused (R227 a). Log entry 19. -/
def startSequence (g : BitVec 2) (esfr : Bool) (o : Override) (len : Nat) (s : State) : Res State :=
  if s.seq.count ≠ 0 then .error (.refuse .nestedSequence)
  else .ok (({ s with seq := sequenceState g esfr o } : State).advance len)

/-- The start of a sequence whose override is read from `Rw_m`, once, now (R223). -/
def startSequenceFrom (g : BitVec 2) (esfr : Bool) (k : OverrideKind) (m : BitVec 4) (s : State) : Res State := do
  let (w, s) ← readGpr m s
  startSequence g esfr (k.ofWord s.cfg.device w) 2 s


/-- ATOMIC #irang2, `D1 :00##-0` (R221). -/
def execAtomic (g : BitVec 2) (s : State) : StepOutcome :=
  finish s (startSequence g false .none 2 s)

/-- EXTR #irang2, `D1 :10##-0` (R222). -/
def execExtr (g : BitVec 2) (s : State) : StepOutcome :=
  finish s (startSequence g true .none 2 s)

/-- EXTS Rw_m, #irang2, `DC :00##-m` (R225). -/
def execExtsRw (m : BitVec 4) (g : BitVec 2) (s : State) : StepOutcome :=
  finish s (startSequenceFrom g false .seg m s)

/-- EXTS #seg8, #irang2, `D7 :00##-0 SS 00` (R225). -/
def execExtsSeg (sg : Byte) (g : BitVec 2) (s : State) : StepOutcome :=
  finish s (startSequence g false (.seg sg) 4 s)

/-- EXTP Rw_m, #irang2, `DC :01##-m` (R223). -/
def execExtpRw (m : BitVec 4) (g : BitVec 2) (s : State) : StepOutcome :=
  finish s (startSequenceFrom g false .page m s)

/-- EXTP #pag10, #irang2, `D7 :01##-0 PP 0:00PP` (R223). -/
def execExtpPag (p : BitVec 10) (g : BitVec 2) (s : State) : StepOutcome :=
  finish s (startSequence g false (.page p) 4 s)

/-- EXTSR Rw_m, #irang2, `DC :10##-m` (R226). -/
def execExtsrRw (m : BitVec 4) (g : BitVec 2) (s : State) : StepOutcome :=
  finish s (startSequenceFrom g true .seg m s)

/-- EXTSR #seg8, #irang2, `D7 :10##-0 SS 00` (R226). -/
def execExtsrSeg (sg : Byte) (g : BitVec 2) (s : State) : StepOutcome :=
  finish s (startSequence g true (.seg sg) 4 s)

/-- EXTPR Rw_m, #irang2, `DC :11##-m` (R224). -/
def execExtprRw (m : BitVec 4) (g : BitVec 2) (s : State) : StepOutcome :=
  finish s (startSequenceFrom g true .page m s)

/-- EXTPR #pag10, #irang2, `D7 :11##-0 PP 0:00PP` (R224). -/
def execExtprPag (p : BitVec 10) (g : BitVec 2) (s : State) : StepOutcome :=
  finish s (startSequence g true (.page p) 4 s)

end Sys2Proof.Machine
end

