-- ==== Sys2Proof/Machine/BitOps.lean ====
section
/-! DEFINITION. Bit and bit-field instructions (43_bit.md R240 to R253). In each the flags go in before the WORD is written
back, so that a write-back of PSW stands (R253). -/

namespace Sys2Proof.Machine

/-- The WORD of a bit operand, with its address (20_memory.md R74). -/
def readBitWord (q : Byte) (s : State) : Res (Word × State) := memReadW (bitWordAddr q s) s

/-- The WORD of a bit operand written back (R74). -/
def writeBitWord (q : Byte) (w : Word) (s : State) : Res State := writeDstW (bitWordAddr q s) w s

/-- Bit `q` of a WORD. -/
def bitAt (w : Word) (q : BitVec 4) : Bool := w.getLsbD q.toNat

/-- A WORD with bit `q` replaced. -/
def withBitAt (w : Word) (q : BitVec 4) (b : Bool) : Word := withBit w q.toNat b

/-- BFLDL, BFLDH (R246, R247): the flags are those of the whole WORD. -/
def bitField (q : Byte) (f : Word → Word) (s : State) : Res State := do
  let (w, s) ← readBitWord q s
  let r := f w
  let s := s.setFlags { e := false, z := decide (r = 0), v := false, c := false, n := r.msb }
  let s ← writeBitWord q r s
  .ok (s.advance 4)

/-- BFLDL's field: mask off, then OR the data unmasked, in the low byte (R247). -/
def fieldLow (mask data : Byte) (w : Word) : Word := w.extractLsb' 8 8 ++ ((w.extractLsb' 0 8 &&& ~~~mask) ||| data)

/-- BFLDH's field, in the high byte (R246). -/
def fieldHigh (mask data : Byte) (w : Word) : Word := ((w.extractLsb' 8 8 &&& ~~~mask) ||| data) ++ w.extractLsb' 0 8

/-- The two-bit instructions. -/
inductive BitOp where
  | cmp | and | or | xor
  deriving DecidableEq, Repr

/-- The bit a two-bit instruction stores; BCMP stores none. -/
def BitOp.compute (op : BitOp) (a b : Bool) : Bool :=
  match op with
  | .cmp => a
  | .and => a && b
  | .or => a || b
  | .xor => a ^^ b

/-- BAND, BOR, BXOR, BCMP (R243, R245, R250, R252); the flags are R241's. Both WORDs are read, the same one twice: where
it is a platform WORD (20_memory.md R66) the two reads are free values of their own, and the same bit may read as two
values. DESIGN CHOICE, log entry 54. -/
def twoBit (op : BitOp) (dst src : BitAddr) (s : State) : Res State := do
  let (w, s) ← readBitWord dst.word s
  let (x, s) ← readBitWord src.word s
  let a := bitAt w dst.bit
  let b := bitAt x src.bit
  let s := s.setFlags (twoBitFlags a b)
  let s ← (if op = .cmp then .ok s
    else writeBitWord dst.word (withBitAt w dst.bit (op.compute a b)) s : Res State)
  .ok (s.advance 4)

/-- BMOV, BMOVN (R248, R249): the flags come from the source bit. Two reads, as in `twoBit` (log entry 54). -/
def moveBit (f : Bool → Bool) (dst src : BitAddr) (s : State) : Res State := do
  let (x, s) ← readBitWord src.word s
  let b := bitAt x src.bit
  let (w, s) ← readBitWord dst.word s
  let s ← writeBitWord dst.word (withBitAt w dst.bit (f b)) (s.setFlags (oneBitFlags b))
  .ok (s.advance 4)

/-- BCLR, BSET (R244, R251): the flags come from the bit as it was. -/
def writeBit (v : Bool) (b : BitAddr) (s : State) : Res State := do
  let (w, s) ← readBitWord b.word s
  let s := s.setFlags (oneBitFlags (bitAt w b.bit))
  let s ← writeBitWord b.word (withBitAt w b.bit v) s
  .ok (s.advance 2)


/-- BFLDL bitoff_Q, #mask8, #data8, `0A QQ @@ ##` (R247). -/
def execBfldl (q mask d : Byte) (s : State) : StepOutcome :=
  finish s (bitField q (fieldLow mask d) s)

/-- BFLDH bitoff_Q, #mask8, #data8, `1A QQ ## @@` (R246). -/
def execBfldh (q mask d : Byte) (s : State) : StepOutcome :=
  finish s (bitField q (fieldHigh mask d) s)

/-- BCMP bitaddr_Z.z, bitaddr_Q.q, `2A QQ ZZ qz` (R245). -/
def execBcmp (dst src : BitAddr) (s : State) : StepOutcome :=
  finish s (twoBit .cmp dst src s)

/-- BMOVN bitaddr_Z.z, bitaddr_Q.q, `3A QQ ZZ qz` (R249). -/
def execBmovn (dst src : BitAddr) (s : State) : StepOutcome :=
  finish s (moveBit not dst src s)

/-- BMOV bitaddr_Z.z, bitaddr_Q.q, `4A QQ ZZ qz` (R248). -/
def execBmov (dst src : BitAddr) (s : State) : StepOutcome :=
  finish s (moveBit id dst src s)

/-- BOR bitaddr_Z.z, bitaddr_Q.q, `5A QQ ZZ qz` (R250). -/
def execBor (dst src : BitAddr) (s : State) : StepOutcome :=
  finish s (twoBit .or dst src s)

/-- BAND bitaddr_Z.z, bitaddr_Q.q, `6A QQ ZZ qz` (R243). -/
def execBand (dst src : BitAddr) (s : State) : StepOutcome :=
  finish s (twoBit .and dst src s)

/-- BXOR bitaddr_Z.z, bitaddr_Q.q, `7A QQ ZZ qz` (R252). -/
def execBxor (dst src : BitAddr) (s : State) : StepOutcome :=
  finish s (twoBit .xor dst src s)

/-- BCLR bitaddr_Q.q, `qE QQ` (R244). -/
def execBclr (b : BitAddr) (s : State) : StepOutcome :=
  finish s (writeBit false b s)

/-- BSET bitaddr_Q.q, `qF QQ` (R251). -/
def execBset (b : BitAddr) (s : State) : StepOutcome :=
  finish s (writeBit true b s)

end Sys2Proof.Machine
end

