-- ==== Sys2Proof/Machine/Branch.lean ====
section
/-! DEFINITION. Jumps, calls, returns and TRAP (44_call_jump_return.md R270 to R290). An odd target is taken as it is; the
next fetch raises IllegalInstructionAccess (R290). -/

namespace Sys2Proof.Machine

/-- `RelTarget(rr)` (R271): `rel` words from the next instruction, inside the segment. -/
def relTarget (rel : Byte) (len : Nat) (s : State) : Word := s.nextIp len + 2 * rel.signExtend 16

/-- `if Cond(cc): IP <- t else: IP <- next_IP` (R278 to R280). -/
def jumpIf (cc : Cond) (t : Word) (len : Nat) (s : State) : State :=
  if condHolds s.flags cc then s.jumpTo t else s.advance len

/-- JMPI (R279): the target is the register's content. -/
def jumpIndirect (cc : Cond) (n : BitVec 4) (s : State) : Res State :=
  if condHolds s.flags cc then do
    let (t, s) ← readGpr n s
    .ok (s.jumpTo t)
  else .ok (s.advance 2)

/-- CALLA and CALLR (R272, R274). -/
def callTo (cc : Cond) (t : Word) (len : Nat) (s : State) : Res State :=
  if condHolds s.flags cc then do
    let s ← push (s.nextIp len) s
    .ok (s.jumpTo t)
  else .ok (s.advance len)

/-- CALLI (R273): the target is read before the push. -/
def callIndirect (cc : Cond) (n : BitVec 4) (s : State) : Res State :=
  if condHolds s.flags cc then do
    let (t, s) ← readGpr n s
    let s ← push (s.nextIp 2) s
    .ok (s.jumpTo t)
  else .ok (s.advance 2)

/-- The write of CSP and IP by an inter-segment transfer (R275, R281). -/
def jumpSegment (sg : Byte) (t : Word) (s : State) : State :=
  { s with csp := maskSeg s.cfg.device (sg.setWidth 16), ip := t }

/-- CALLS (R275): CSP is pushed first, whatever SGTDIS is. -/
def callSegment (sg : Byte) (t : Word) (s : State) : Res State := do
  let s ← push s.csp s
  let s ← push (s.nextIp 4) s
  .ok (jumpSegment sg t s)

/-- PCALL (R284). -/
def pushCall (r : Byte) (t : Word) (s : State) : Res State := do
  let (v, s) ← memReadW (regAddr r .word s) s
  let s ← push v s
  let s ← push (s.nextIp 4) s
  .ok ((s.setFlags (moveFlags v s.flags)).jumpTo t)

/-- JB and JNB (R276, R282): the jump is taken when the bit is `on`. -/
def jumpOnBit (on : Bool) (b : BitAddr) (rel : Byte) (s : State) : Res State := do
  let (w, s) ← readBitWord b.word s
  .ok (if bitAt w b.bit = on then s.jumpTo (relTarget rel 4 s) else s.advance 4)

/-- The flags of JBC and JNBS (R277, R283): Z and N say what the bit was; E, V, C are as `BITJUMP_EVC` says. Log entry
20. -/
def bitJumpFlags (b : Bool) (s : State) : Flags × State :=
  match s.cfg.bitJumpEvc with
  | .cleared => (oneBitFlags b, s)
  | .unchanged => ({ s.flags with z := !b, n := b }, s)
  | .drawn =>
    let (e, s) := s.drawBit
    let (v, s) := s.drawBit
    let (c, s) := s.drawBit
    ({ e := e, z := !b, v := v, c := c, n := b }, s)

/-- JBC and JNBS (R277, R283): when the bit is `on` it is inverted and the jump taken; the flags are written either way. -/
def testAndChange (on : Bool) (b : BitAddr) (rel : Byte) (s : State) : Res State := do
  let (w, s) ← readBitWord b.word s
  let (f, s) := bitJumpFlags (bitAt w b.bit) s
  let s := s.setFlags f
  if bitAt w b.bit = on then do
    let s ← writeBitWord b.word (withBitAt w b.bit (!on)) s
    .ok (s.jumpTo (relTarget rel 4 s))
  else .ok (s.advance 4)

/-- RET (R285). -/
def returnNear (s : State) : Res State := do
  let (ip, s) ← pop s
  .ok (s.jumpTo ip)

/-- RETS (R288): the low `SEG_BITS` bits of the popped CSP are kept. -/
def returnFar (s : State) : Res State := do
  let (ip, s) ← pop s
  let (csp, s) ← pop s
  .ok { s with ip := ip, csp := maskSeg s.cfg.device csp }

/-- RETP (R287): the flags go in before the register, so that a popped PSW stands (20_memory.md R68). -/
def returnPop (r : Byte) (s : State) : Res State := do
  let (ip, s) ← pop s
  let (v, s) ← pop s
  let s := s.setFlags (moveFlags v s.flags)
  let s ← writeDstW (regAddr r .word s) v s
  .ok (s.jumpTo ip)


/-- JB bitaddr_Q.q, rel, `8A QQ rr q0` (R276). -/
def execJb (b : BitAddr) (rel : Byte) (s : State) : StepOutcome :=
  finish s (jumpOnBit true b rel s)

/-- JNB bitaddr_Q.q, rel, `9A QQ rr q0` (R282). -/
def execJnb (b : BitAddr) (rel : Byte) (s : State) : StepOutcome :=
  finish s (jumpOnBit false b rel s)

/-- JBC bitaddr_Q.q, rel, `AA QQ rr q0` (R277). -/
def execJbc (b : BitAddr) (rel : Byte) (s : State) : StepOutcome :=
  finish s (testAndChange true b rel s)

/-- JNBS bitaddr_Q.q, rel, `BA QQ rr q0` (R283). -/
def execJnbs (b : BitAddr) (rel : Byte) (s : State) : StepOutcome :=
  finish s (testAndChange false b rel s)

/-- CALLA cc, caddr, `CA c0 MM MM` (R272). -/
def execCalla (cc : Cond) (a : Word) (s : State) : StepOutcome :=
  finish s (callTo cc a 4 s)

/-- JMPA cc, caddr, `EA c0 MM MM` (R278). -/
def execJmpa (cc : Cond) (a : Word) (s : State) : StepOutcome :=
  finish s (.ok (jumpIf cc a 4 s))

/-- CALLI cc, [Rw_n], `AB cn` (R273). -/
def execCalli (cc : Cond) (n : BitVec 4) (s : State) : StepOutcome :=
  finish s (callIndirect cc n s)

/-- JMPI cc, [Rw_n], `9C cn` (R279). -/
def execJmpi (cc : Cond) (n : BitVec 4) (s : State) : StepOutcome :=
  finish s (jumpIndirect cc n s)

/-- CALLR rel, `BB rr` (R274). -/
def execCallr (rel : Byte) (s : State) : StepOutcome :=
  finish s (callTo .uc (relTarget rel 2 s) 2 s)

/-- JMPR cc, rel, `cD rr` (R280). -/
def execJmpr (cc : Cond) (rel : Byte) (s : State) : StepOutcome :=
  finish s (.ok (jumpIf cc (relTarget rel 2 s) 2 s))

/-- CALLS seg, caddr, `DA SS MM MM` (R275). -/
def execCalls (sg : Byte) (a : Word) (s : State) : StepOutcome :=
  finish s (callSegment sg a s)

/-- JMPS seg, caddr, `FA SS MM MM` (R281). -/
def execJmps (sg : Byte) (a : Word) (s : State) : StepOutcome :=
  finish s (.ok (jumpSegment sg a s))

/-- PCALL reg, caddr, `E2 RR MM MM` (R284). -/
def execPcall (r : Byte) (a : Word) (s : State) : StepOutcome :=
  finish s (pushCall r a s)

/-- RET, `CB 00` (R285). -/
def execRet (s : State) : StepOutcome :=
  finish s (returnNear s)

/-- RETS, `DB 00` (R288). -/
def execRets (s : State) : StepOutcome :=
  finish s (returnFar s)

/-- RETI, `FB 88` (R286). -/
def execReti (s : State) : StepOutcome :=
  finish s (returnFromTrap s)

/-- RETP reg, `EB RR` (R287). -/
def execRetp (r : Byte) (s : State) : StepOutcome :=
  finish s (returnPop r s)

/-- TRAP #trap7, `9B t:ttt0` (R289). -/
def execTrap (t : BitVec 7) (s : State) : StepOutcome :=
  finish s (enterTrap t (s.nextIp 2) none s)

end Sys2Proof.Machine
end

