-- ==== Sys2Proof/Machine/DataMove.lean ====
section
/-! DEFINITION. Data movement (47_data_move.md R350 to R359). The flags are written last, but where the destination is PSW
they are lost (R359; 20_memory.md R68, R77). -/

namespace Sys2Proof.Machine

/-- MOV (R351, R359): the destination's address is formed first; the source is read with its post-increment; the
destination is written between its pre-decrement and its post-increment; then come the flags. -/
def moveW (dst : Loc) (src : Src 16) (len : Nat) (s : State) : Res State := do
  let (pa, s) ← dst.addr .word s
  let (v, s) ← readSrcW src s
  let s ← dst.before .word s
  let s ← putDstW dst pa v s
  .ok ((s.flagsLast pa (moveFlags v s.flags)).advance len)

/-- MOVB (R352), in the order of `moveW`. -/
def moveB (dst : Loc) (src : Src 8) (len : Nat) (s : State) : Res State := do
  let (pa, s) ← dst.addr .byte s
  let (v, s) ← readSrcB src s
  let s ← dst.before .byte s
  let s ← putDstB dst pa v s
  .ok ((s.flagsLast pa (moveFlags v s.flags)).advance len)

/-- The extension of MOVBS and MOVBSZ. -/
inductive Extension where
  | sign | zero
  deriving DecidableEq, Repr

/-- The WORD and the flags of MOVBS (R353) and MOVBSZ (R354); V and C as they were. -/
def Extension.compute (x : Extension) (b : Byte) (old : Flags) : Word × Flags :=
  match x with
  | .sign => (b.signExtend 16, { old with e := false, z := decide (b = 0), n := b.msb })
  | .zero => (b.setWidth 16, { old with e := false, z := decide (b = 0), n := false })

/-- MOVBS, MOVBSZ (R353, R354): a BYTE source, a WORD destination. -/
def moveExtend (x : Extension) (dst : Loc) (src : Src 8) (len : Nat) (s : State) : Res State := do
  let (pa, s) ← dst.addr .word s
  let (b, s) ← readSrcB src s
  let y := x.compute b s.flags
  let s ← writeDstW pa y.1 s
  .ok ((s.flagsLast pa y.2).advance len)

/-- POP (R355): the register is written after the increment of SP. -/
def popReg (r : Byte) (s : State) : Res State := do
  let (v, s) ← pop s
  let pa := regAddr r .word s
  let s ← writeDstW pa v s
  .ok ((s.flagsLast pa (moveFlags v s.flags)).advance 2)

/-- PUSH (R356): the register is read before the decrement of SP. -/
def pushReg (r : Byte) (s : State) : Res State := do
  let (v, s) ← memReadW (regAddr r .word s) s
  let s ← push v s
  .ok ((s.setFlags (moveFlags v s.flags)).advance 2)

/-- SCXT (R357): both operands are read, the register's old value is pushed, the register written; no flag changes. -/
def switchContext (r : Byte) (src : Src 16) (s : State) : Res State := do
  let (old, s) ← memReadW (regAddr r .word s) s
  let (v, s) ← readSrcW src s
  let s ← push old s
  let s ← writeDstW (regAddr r .word s) v s
  .ok (s.advance 4)


/-- MOV Rw_n, Rw_m, `F0 nm` (R351). -/
def execMovRwRw (n m : BitVec 4) (s : State) : StepOutcome :=
  finish s (moveW (.rw n) (.loc (.rw m)) 2 s)

/-- MOV Rw_n, #data4, `E0 #n` (R351). -/
def execMovRwData4 (n d : BitVec 4) (s : State) : StepOutcome :=
  finish s (moveW (.rw n) (.imm (d.setWidth 16)) 2 s)

/-- MOV reg, #data16, `E6 RR ## ##` (R351). -/
def execMovRegData16 (r : Byte) (d : Word) (s : State) : StepOutcome :=
  finish s (moveW (.reg r) (.imm d) 4 s)

/-- MOV Rw_n, [Rw_m], `A8 nm` (R351). -/
def execMovRwInd (n m : BitVec 4) (s : State) : StepOutcome :=
  finish s (moveW (.rw n) (.loc (.ind m)) 2 s)

/-- MOV Rw_n, [Rw_m+], `98 nm` (R351). -/
def execMovRwIndInc (n m : BitVec 4) (s : State) : StepOutcome :=
  finish s (moveW (.rw n) (.loc (.indInc m)) 2 s)

/-- MOV [Rw_m], Rw_n, `B8 nm` (R351). -/
def execMovIndRw (m n : BitVec 4) (s : State) : StepOutcome :=
  finish s (moveW (.ind m) (.loc (.rw n)) 2 s)

/-- MOV [-Rw_m], Rw_n, `88 nm` (R351). -/
def execMovIndDecRw (m n : BitVec 4) (s : State) : StepOutcome :=
  finish s (moveW (.indDec m) (.loc (.rw n)) 2 s)

/-- MOV [Rw_n], [Rw_m], `C8 nm` (R351). -/
def execMovIndInd (n m : BitVec 4) (s : State) : StepOutcome :=
  finish s (moveW (.ind n) (.loc (.ind m)) 2 s)

/-- MOV [Rw_n+], [Rw_m], `D8 nm` (R351). -/
def execMovIndIncInd (n m : BitVec 4) (s : State) : StepOutcome :=
  finish s (moveW (.indInc n) (.loc (.ind m)) 2 s)

/-- MOV [Rw_n], [Rw_m+], `E8 nm` (R351). -/
def execMovIndIndInc (n m : BitVec 4) (s : State) : StepOutcome :=
  finish s (moveW (.ind n) (.loc (.indInc m)) 2 s)

/-- MOV Rw_n, [Rw_m+#data16], `D4 nm ## ##` (R351). -/
def execMovRwIndDisp (n m : BitVec 4) (d : Word) (s : State) : StepOutcome :=
  finish s (moveW (.rw n) (.loc (.indDisp m d)) 4 s)

/-- MOV [Rw_m+#data16], Rw_n, `C4 nm ## ##` (R351). -/
def execMovIndDispRw (m : BitVec 4) (d : Word) (n : BitVec 4) (s : State) : StepOutcome :=
  finish s (moveW (.indDisp m d) (.loc (.rw n)) 4 s)

/-- MOV [Rw_n], mem, `84 0n MM MM` (R351). -/
def execMovIndMem (n : BitVec 4) (a : Word) (s : State) : StepOutcome :=
  finish s (moveW (.ind n) (.loc (.mem a)) 4 s)

/-- MOV mem, [Rw_n], `94 0n MM MM` (R351). -/
def execMovMemInd (a : Word) (n : BitVec 4) (s : State) : StepOutcome :=
  finish s (moveW (.mem a) (.loc (.ind n)) 4 s)

/-- MOV reg, mem, `F2 RR MM MM` (R351). -/
def execMovRegMem (r : Byte) (a : Word) (s : State) : StepOutcome :=
  finish s (moveW (.reg r) (.loc (.mem a)) 4 s)

/-- MOV mem, reg, `F6 RR MM MM` (R351). -/
def execMovMemReg (a : Word) (r : Byte) (s : State) : StepOutcome :=
  finish s (moveW (.mem a) (.loc (.reg r)) 4 s)

/-- MOVB Rb_n, Rb_m, `F1 nm` (R352). -/
def execMovbRbRb (n m : BitVec 4) (s : State) : StepOutcome :=
  finish s (moveB (.rb n) (.loc (.rb m)) 2 s)

/-- MOVB Rb_n, #data4, `E1 #n` (R352). -/
def execMovbRbData4 (n d : BitVec 4) (s : State) : StepOutcome :=
  finish s (moveB (.rb n) (.imm (d.setWidth 8)) 2 s)

/-- MOVB reg, #data8, `E7 RR ## xx` (R352). -/
def execMovbRegData8 (r d : Byte) (s : State) : StepOutcome :=
  finish s (moveB (.reg r) (.imm d) 4 s)

/-- MOVB Rb_n, [Rw_m], `A9 nm` (R352). -/
def execMovbRbInd (n m : BitVec 4) (s : State) : StepOutcome :=
  finish s (moveB (.rb n) (.loc (.ind m)) 2 s)

/-- MOVB Rb_n, [Rw_m+], `99 nm` (R352). -/
def execMovbRbIndInc (n m : BitVec 4) (s : State) : StepOutcome :=
  finish s (moveB (.rb n) (.loc (.indInc m)) 2 s)

/-- MOVB [Rw_m], Rb_n, `B9 nm` (R352). -/
def execMovbIndRb (m n : BitVec 4) (s : State) : StepOutcome :=
  finish s (moveB (.ind m) (.loc (.rb n)) 2 s)

/-- MOVB [-Rw_m], Rb_n, `89 nm` (R352). -/
def execMovbIndDecRb (m n : BitVec 4) (s : State) : StepOutcome :=
  finish s (moveB (.indDec m) (.loc (.rb n)) 2 s)

/-- MOVB [Rw_n], [Rw_m], `C9 nm` (R352). -/
def execMovbIndInd (n m : BitVec 4) (s : State) : StepOutcome :=
  finish s (moveB (.ind n) (.loc (.ind m)) 2 s)

/-- MOVB [Rw_n+], [Rw_m], `D9 nm` (R352). -/
def execMovbIndIncInd (n m : BitVec 4) (s : State) : StepOutcome :=
  finish s (moveB (.indInc n) (.loc (.ind m)) 2 s)

/-- MOVB [Rw_n], [Rw_m+], `E9 nm` (R352). -/
def execMovbIndIndInc (n m : BitVec 4) (s : State) : StepOutcome :=
  finish s (moveB (.ind n) (.loc (.indInc m)) 2 s)

/-- MOVB Rb_n, [Rw_m+#data16], `F4 nm ## ##` (R352). -/
def execMovbRbIndDisp (n m : BitVec 4) (d : Word) (s : State) : StepOutcome :=
  finish s (moveB (.rb n) (.loc (.indDisp m d)) 4 s)

/-- MOVB [Rw_m+#data16], Rb_n, `E4 nm ## ##` (R352). -/
def execMovbIndDispRb (m : BitVec 4) (d : Word) (n : BitVec 4) (s : State) : StepOutcome :=
  finish s (moveB (.indDisp m d) (.loc (.rb n)) 4 s)

/-- MOVB [Rw_n], mem, `A4 0n MM MM` (R352). -/
def execMovbIndMem (n : BitVec 4) (a : Word) (s : State) : StepOutcome :=
  finish s (moveB (.ind n) (.loc (.mem a)) 4 s)

/-- MOVB mem, [Rw_n], `B4 0n MM MM` (R352). -/
def execMovbMemInd (a : Word) (n : BitVec 4) (s : State) : StepOutcome :=
  finish s (moveB (.mem a) (.loc (.ind n)) 4 s)

/-- MOVB reg, mem, `F3 RR MM MM` (R352). -/
def execMovbRegMem (r : Byte) (a : Word) (s : State) : StepOutcome :=
  finish s (moveB (.reg r) (.loc (.mem a)) 4 s)

/-- MOVB mem, reg, `F7 RR MM MM` (R352). -/
def execMovbMemReg (a : Word) (r : Byte) (s : State) : StepOutcome :=
  finish s (moveB (.mem a) (.loc (.reg r)) 4 s)

/-- MOVBS Rw_n, Rb_m, `D0 mn` (R353). -/
def execMovbsRwRb (n m : BitVec 4) (s : State) : StepOutcome :=
  finish s (moveExtend .sign (.rw n) (.loc (.rb m)) 2 s)

/-- MOVBS reg, mem, `D2 RR MM MM` (R353). -/
def execMovbsRegMem (r : Byte) (a : Word) (s : State) : StepOutcome :=
  finish s (moveExtend .sign (.reg r) (.loc (.mem a)) 4 s)

/-- MOVBS mem, reg, `D5 RR MM MM` (R353). -/
def execMovbsMemReg (a : Word) (r : Byte) (s : State) : StepOutcome :=
  finish s (moveExtend .sign (.mem a) (.loc (.reg r)) 4 s)

/-- MOVBSZ Rw_n, Rb_m, `C0 mn` (R354). -/
def execMovbszRwRb (n m : BitVec 4) (s : State) : StepOutcome :=
  finish s (moveExtend .zero (.rw n) (.loc (.rb m)) 2 s)

/-- MOVBSZ reg, mem, `C2 RR MM MM` (R354). -/
def execMovbszRegMem (r : Byte) (a : Word) (s : State) : StepOutcome :=
  finish s (moveExtend .zero (.reg r) (.loc (.mem a)) 4 s)

/-- MOVBSZ mem, reg, `C5 RR MM MM` (R354). -/
def execMovbszMemReg (a : Word) (r : Byte) (s : State) : StepOutcome :=
  finish s (moveExtend .zero (.mem a) (.loc (.reg r)) 4 s)

/-- POP reg, `FC RR` (R355). -/
def execPop (r : Byte) (s : State) : StepOutcome :=
  finish s (popReg r s)

/-- PUSH reg, `EC RR` (R356). -/
def execPush (r : Byte) (s : State) : StepOutcome :=
  finish s (pushReg r s)

/-- SCXT reg, #data16, `C6 RR ## ##` (R357). -/
def execScxtRegData16 (r : Byte) (d : Word) (s : State) : StepOutcome :=
  finish s (switchContext r (.imm d) s)

/-- SCXT reg, mem, `D6 RR MM MM` (R357). -/
def execScxtRegMem (r : Byte) (a : Word) (s : State) : StepOutcome :=
  finish s (switchContext r (.loc (.mem a)) s)

end Sys2Proof.Machine
end

