-- ==== Sys2Proof/Machine/MulDiv.lean ====
section
/-! DEFINITION. Multiply and divide (46_mul_div.md R330 to R338): one indivisible step each (R337). -/

namespace Sys2Proof.Machine

/-- MDC after a multiply or divide is a draw (10_state.md R30). Log entry 17. -/
def State.drawMdc (s : State) : State :=
  let (w, s) := s.drawWord
  { s with mdc := w }

/-- MD written (R330). -/
def State.setMd (s : State) (hi lo : Word) : State := { s with mdh := hi, mdl := lo }

/-- The product of MUL (R335) and whether it fits 16 bits. -/
def signedProduct (a b : Word) : BitVec 32 × Bool :=
  let p := a.toInt * b.toInt
  (BitVec.ofInt 32 p, decide (-32768 ≤ p) && decide (p ≤ 32767))

/-- The product of MULU (R336) and whether it fits 16 bits. -/
def unsignedProduct (a b : Word) : BitVec 32 × Bool :=
  let p := a.toNat * b.toNat
  (BitVec.ofNat 32 p, decide (p ≤ 0xFFFF))

/-- MUL, MULU (R335, R336). -/
def multiply (product : Word → Word → BitVec 32 × Bool) (n m : BitVec 4) (s : State) : Res State := do
  let (a, s) ← readGpr n s
  let (b, s) ← readGpr m s
  let p := product a b
  let s := s.drawMdc.setMd (p.1.extractLsb' 16 16) (p.1.extractLsb' 0 16)
  let s := s.setFlags { e := false, z := decide (p.1 = 0), v := !p.2, c := false, n := p.1.msb }
  .ok (s.advance 2)

/-- A quotient and a remainder in a 16-bit signed type, if the quotient fits (R338): rounded toward zero, the remainder
with the sign of the dividend. Log entry 15. -/
def signedQuotient (a d : Int) : Option (Word × Word) :=
  if d = 0 then none
  else if -32768 ≤ a.tdiv d ∧ a.tdiv d ≤ 32767 then
    some (BitVec.ofInt 16 (a.tdiv d), BitVec.ofInt 16 (a - a.tdiv d * d))
  else none

/-- A quotient and a remainder in a 16-bit unsigned type, if the quotient fits (R333, R334). -/
def unsignedQuotient (a d : Nat) : Option (Word × Word) :=
  if d = 0 then none
  else if a / d ≤ 0xFFFF then some (BitVec.ofNat 16 (a / d), BitVec.ofNat 16 (a % d))
  else none

/-- DIV: MDL by op1, signed (R331). -/
def quotSigned16 (_mdh mdl d : Word) : Option (Word × Word) := signedQuotient mdl.toInt d.toInt

/-- DIVL: MD by op1, signed (R332). -/
def quotSigned32 (mdh mdl d : Word) : Option (Word × Word) := signedQuotient (mdh ++ mdl).toInt d.toInt

/-- DIVU: MDL by op1, unsigned (R334). -/
def quotUnsigned16 (_mdh mdl d : Word) : Option (Word × Word) := unsignedQuotient mdl.toNat d.toNat

/-- DIVLU: MD by op1, unsigned (R333). -/
def quotUnsigned32 (mdh mdl d : Word) : Option (Word × Word) := unsignedQuotient (mdh ++ mdl).toNat d.toNat

/-- The result of a division that sets V (R338, `DIV_OVERFLOW_RESULT`): MDL, MDH, Z and N are draws, E and C are 0. Log entry 16. -/
def divisionUndefined (s : State) : State :=
  let (lo, s) := s.drawWord
  let (hi, s) := s.drawWord
  let (z, s) := s.drawBit
  let (n, s) := s.drawBit
  (s.setMd hi lo).setFlags { e := false, z := z, v := true, c := false, n := n }

/-- Which divisions `DIV_ROUNDING = draw` leaves open (D11): inexact, with operands of different sign. -/
def signedInexact (a d : Int) : Bool := decide (a * d < 0) && decide (a.tmod d ≠ 0)

/-- The four divisions. -/
inductive DivOp where
  | div | divl | divu | divlu
  deriving DecidableEq, Repr

/-- The quotient and the remainder, if the quotient fits. -/
def DivOp.result (op : DivOp) (mdh mdl d : Word) : Option (Word × Word) :=
  match op with
  | .div => quotSigned16 mdh mdl d
  | .divl => quotSigned32 mdh mdl d
  | .divu => quotUnsigned16 mdh mdl d
  | .divlu => quotUnsigned32 mdh mdl d

/-- The rounding decides the result: DIVU and DIVLU do not depend on it (R338). -/
def DivOp.inexact (op : DivOp) (mdh mdl d : Word) : Bool :=
  match op with
  | .div => signedInexact mdl.toInt d.toInt
  | .divl => signedInexact (mdh ++ mdl).toInt d.toInt
  | .divu => false
  | .divlu => false

/-- A quotient and a remainder stored, with the flags of the quotient (R331 to R334). -/
def State.setQuotient (s : State) (q r : Word) : State :=
  (s.setMd r q).setFlags { e := false, z := decide (q = 0), v := false, c := false, n := q.msb }

/-- The result of a division that fits but whose rounding is left open: quotient and remainder are draws (D11). -/
def divisionOpen (s : State) : State :=
  let (q, s) := s.drawWord
  let (r, s) := s.drawWord
  s.setQuotient q r

/-- DIV, DIVL, DIVLU, DIVU (R331 to R334). -/
def divide (op : DivOp) (n : BitVec 4) (s : State) : Res State := do
  let (d, s) ← readGpr n s
  let x := op.result s.mdh s.mdl d
  let drawn := decide (s.cfg.divRounding = .draw) && op.inexact s.mdh s.mdl d
  let s := s.drawMdc
  let s := match x with
    | none => divisionUndefined s
    | some (q, r) => if drawn then divisionOpen s else s.setQuotient q r
  .ok (s.advance 2)


/-- MUL Rw_n, Rw_m, `0B nm` (R335). -/
def execMulRwRw (n m : BitVec 4) (s : State) : StepOutcome :=
  finish s (multiply signedProduct n m s)

/-- MULU Rw_n, Rw_m, `1B nm` (R336). -/
def execMuluRwRw (n m : BitVec 4) (s : State) : StepOutcome :=
  finish s (multiply unsignedProduct n m s)

/-- DIV Rw_n, `4B nn` (R331). -/
def execDiv (n : BitVec 4) (s : State) : StepOutcome :=
  finish s (divide .div n s)

/-- DIVU Rw_n, `5B nn` (R334). -/
def execDivu (n : BitVec 4) (s : State) : StepOutcome :=
  finish s (divide .divu n s)

/-- DIVL Rw_n, `6B nn` (R332). -/
def execDivl (n : BitVec 4) (s : State) : StepOutcome :=
  finish s (divide .divl n s)

/-- DIVLU Rw_n, `7B nn` (R333). -/
def execDivlu (n : BitVec 4) (s : State) : StepOutcome :=
  finish s (divide .divlu n s)

end Sys2Proof.Machine
end

