-- ==== Sys2Proof/Machine/Shift.lean ====
section
/-! DEFINITION. Shift, rotate and normalise (41_shift_rotate.md R200 to R206). -/

namespace Sys2Proof.Machine

/-- The shifts and rotates. -/
inductive ShiftOp where
  | rol | ror | shl | shr | ashr
  deriving DecidableEq, Repr

/-- The value, V and C of a running shift. -/
structure Shifting where
  value : Word
  v : Bool
  c : Bool
  deriving DecidableEq, Repr

/-- One position of a shift (the loop bodies of R201, R203 to R206): V accumulates the C that is lost on a right shift. -/
def ShiftOp.once (op : ShiftOp) (x : Shifting) : Shifting :=
  match op with
  | .rol => { value := x.value.extractLsb' 0 15 ++ x.value.extractLsb' 15 1, v := false, c := x.value.getLsbD 15 }
  | .shl => { value := x.value.extractLsb' 0 15 ++ (0 : BitVec 1), v := false, c := x.value.getLsbD 15 }
  | .ror => { value := x.value.extractLsb' 0 1 ++ x.value.extractLsb' 1 15, v := x.v || x.c, c := x.value.getLsbD 0 }
  | .shr => { value := (0 : BitVec 1) ++ x.value.extractLsb' 1 15, v := x.c || x.v, c := x.value.getLsbD 0 }
  | .ashr => { value := x.value.extractLsb' 15 1 ++ x.value.extractLsb' 1 15, v := x.c || x.v, c := x.value.getLsbD 0 }

/-- `repeat count times`. -/
def ShiftOp.loop (op : ShiftOp) (count : Nat) (x : Shifting) : Shifting :=
  match count with
  | 0 => x
  | count + 1 => ShiftOp.loop op count (op.once x)

/-- The result and the flags of a shift by `count` positions (R201, R203 to R206). -/
def ShiftOp.compute (op : ShiftOp) (a : Word) (count : Nat) : Word × Flags :=
  let x := ShiftOp.loop op count ⟨a, false, false⟩
  (x.value, { e := false, z := decide (x.value = 0), v := x.v, c := x.c, n := x.value.msb })

/-- ASHR, ROL, ROR, SHL, SHR: the count is the low four bits of op2 (R200). -/
def shiftOp (op : ShiftOp) (n : BitVec 4) (src : Src 16) (s : State) : Res State := do
  let (a, s) ← readGpr n s
  let (b, s) ← readSrcW src s
  let x := op.compute a (b.extractLsb' 0 4).toNat
  let s ← writeDstW (gprAddr s n) x.1 (s.setFlags x.2)
  .ok (s.advance 2)

/-- The loop of PRIOR (R202): how many left shifts, at most `fuel`, bring a 1 to bit 15. -/
def priorCount (fuel : Nat) (tmp : Word) : Nat :=
  match fuel with
  | 0 => 0
  | fuel + 1 => if tmp.getLsbD 15 then 0 else 1 + priorCount fuel (tmp <<< 1)

/-- The result of PRIOR: 0 for a zero operand (R202). -/
def priorValue (b : Word) : Word := if b = 0 then 0 else BitVec.ofNat 16 (priorCount 15 b)

/-- PRIOR (R202): Z says that op2 is 0. -/
def priorOp (n m : BitVec 4) (s : State) : Res State := do
  let (b, s) ← readGpr m s
  let s := s.setFlags { e := false, z := decide (b = 0), v := false, c := false, n := false }
  let s ← writeDstW (gprAddr s n) (priorValue b) s
  .ok (s.advance 2)


/-- ROL Rw_n, Rw_m, `0C nm` (R203). -/
def execRolRwRw (n m : BitVec 4) (s : State) : StepOutcome :=
  finish s (shiftOp .rol n (.loc (.rw m)) s)

/-- ROL Rw_n, #data4, `1C #n` (R203). -/
def execRolRwData4 (n d : BitVec 4) (s : State) : StepOutcome :=
  finish s (shiftOp .rol n (.imm (d.setWidth 16)) s)

/-- ROR Rw_n, Rw_m, `2C nm` (R204). -/
def execRorRwRw (n m : BitVec 4) (s : State) : StepOutcome :=
  finish s (shiftOp .ror n (.loc (.rw m)) s)

/-- ROR Rw_n, #data4, `3C #n` (R204). -/
def execRorRwData4 (n d : BitVec 4) (s : State) : StepOutcome :=
  finish s (shiftOp .ror n (.imm (d.setWidth 16)) s)

/-- SHL Rw_n, Rw_m, `4C nm` (R205). -/
def execShlRwRw (n m : BitVec 4) (s : State) : StepOutcome :=
  finish s (shiftOp .shl n (.loc (.rw m)) s)

/-- SHL Rw_n, #data4, `5C #n` (R205). -/
def execShlRwData4 (n d : BitVec 4) (s : State) : StepOutcome :=
  finish s (shiftOp .shl n (.imm (d.setWidth 16)) s)

/-- SHR Rw_n, Rw_m, `6C nm` (R206). -/
def execShrRwRw (n m : BitVec 4) (s : State) : StepOutcome :=
  finish s (shiftOp .shr n (.loc (.rw m)) s)

/-- SHR Rw_n, #data4, `7C #n` (R206). -/
def execShrRwData4 (n d : BitVec 4) (s : State) : StepOutcome :=
  finish s (shiftOp .shr n (.imm (d.setWidth 16)) s)

/-- ASHR Rw_n, Rw_m, `AC nm` (R201). -/
def execAshrRwRw (n m : BitVec 4) (s : State) : StepOutcome :=
  finish s (shiftOp .ashr n (.loc (.rw m)) s)

/-- ASHR Rw_n, #data4, `BC #n` (R201). -/
def execAshrRwData4 (n d : BitVec 4) (s : State) : StepOutcome :=
  finish s (shiftOp .ashr n (.imm (d.setWidth 16)) s)

/-- PRIOR Rw_n, Rw_m, `2B nm` (R202). -/
def execPriorRwRw (n m : BitVec 4) (s : State) : StepOutcome :=
  finish s (priorOp n m s)

end Sys2Proof.Machine
end

