-- ==== Sys2Proof/Machine/System.lean ====
section
/-! DEFINITION. System control (45_system.md R310 to R317). The decoder has checked the redundant bytes of a protected
instruction (R310). -/

namespace Sys2Proof.Machine

/-- DISWDT (R311): effective only while the window is open. -/
def disableWatchdog (s : State) : State :=
  ({ s with wdtEnabled := s.wdtEnabled && !s.wdtOpen } : State).advance 4

/-- EINIT (R312): RSTOUT# goes high and the window closes. -/
def endInit (s : State) : State := ({ s with initDone := true, wdtOpen := false } : State).advance 4

/-- IDLE (R313); inside a sequence it is refused (42_atomic_ext.md R227 b). -/
def enterIdle (s : State) : Res State :=
  if s.seq.count ≠ 0 then .error (.refuse .waitInSequence)
  else .ok (({ s with runState := .idle } : State).advance 4)

/-- PWRDN (R315): effective only with NMI# low, else nothing but the advance; inside a sequence it is refused (R227 b). -/
def powerDown (s : State) : Res State :=
  if s.seq.count ≠ 0 then .error (.refuse .waitInSequence)
  else if s.nmiPin then .ok (s.advance 4)
  else .ok (({ s with runState := .powerDown } : State).advance 4)

/-- SRVWDT (R317): the high byte of the counter is reloaded, the low byte cleared, the window closed. Log entry 32. -/
def serviceWatchdog (s : State) : State :=
  ({ s with wdt := s.wdtcon.extractLsb' 8 8 ++ (0 : Byte), wdtOpen := false } : State).advance 4


/-- DISWDT, `A5 5A A5 A5` (R311). -/
def execDiswdt (s : State) : StepOutcome :=
  finish s (.ok (disableWatchdog s))

/-- EINIT, `B5 4A B5 B5` (R312). -/
def execEinit (s : State) : StepOutcome :=
  finish s (.ok (endInit s))

/-- IDLE, `87 78 87 87` (R313). -/
def execIdle (s : State) : StepOutcome :=
  finish s (enterIdle s)

/-- PWRDN, `97 68 97 97` (R315). -/
def execPwrdn (s : State) : StepOutcome :=
  finish s (powerDown s)

/-- SRST, `B7 48 B7 B7` (R316). -/
def execSrst (s : State) : StepOutcome :=
  finish s (.ok (s.resetBy .software))

/-- SRVWDT, `A7 58 A7 A7` (R317). -/
def execSrvwdt (s : State) : StepOutcome :=
  finish s (.ok (serviceWatchdog s))

/-- NOP, `CC 00` (R314). -/
def execNop (s : State) : StepOutcome :=
  finish s (.ok (s.advance 2))

end Sys2Proof.Machine
end

