-- ==== Sys2Proof/Machine/Dispatch.lean ====
section
/-! DEFINITION. One arm for each constructor of `Instr`: a direct call of its meaning. -/

namespace Sys2Proof.Machine

def exec (i : Instr) (s : State) : Host.Outcome State Fault Refusal :=
  match i with
  | .addRwRw n m => Sys2Proof.Machine.execAddRwRw n m s
  | .addRwInd n x => Sys2Proof.Machine.execAddRwInd n x s
  | .addRwIndInc n x => Sys2Proof.Machine.execAddRwIndInc n x s
  | .addRwData3 n d => Sys2Proof.Machine.execAddRwData3 n d s
  | .addRegData16 r d => Sys2Proof.Machine.execAddRegData16 r d s
  | .addRegMem r a => Sys2Proof.Machine.execAddRegMem r a s
  | .addMemReg a r => Sys2Proof.Machine.execAddMemReg a r s
  | .addbRbRb n m => Sys2Proof.Machine.execAddbRbRb n m s
  | .addbRbInd n x => Sys2Proof.Machine.execAddbRbInd n x s
  | .addbRbIndInc n x => Sys2Proof.Machine.execAddbRbIndInc n x s
  | .addbRbData3 n d => Sys2Proof.Machine.execAddbRbData3 n d s
  | .addbRegData8 r d => Sys2Proof.Machine.execAddbRegData8 r d s
  | .addbRegMem r a => Sys2Proof.Machine.execAddbRegMem r a s
  | .addbMemReg a r => Sys2Proof.Machine.execAddbMemReg a r s
  | .addcRwRw n m => Sys2Proof.Machine.execAddcRwRw n m s
  | .addcRwInd n x => Sys2Proof.Machine.execAddcRwInd n x s
  | .addcRwIndInc n x => Sys2Proof.Machine.execAddcRwIndInc n x s
  | .addcRwData3 n d => Sys2Proof.Machine.execAddcRwData3 n d s
  | .addcRegData16 r d => Sys2Proof.Machine.execAddcRegData16 r d s
  | .addcRegMem r a => Sys2Proof.Machine.execAddcRegMem r a s
  | .addcMemReg a r => Sys2Proof.Machine.execAddcMemReg a r s
  | .addcbRbRb n m => Sys2Proof.Machine.execAddcbRbRb n m s
  | .addcbRbInd n x => Sys2Proof.Machine.execAddcbRbInd n x s
  | .addcbRbIndInc n x => Sys2Proof.Machine.execAddcbRbIndInc n x s
  | .addcbRbData3 n d => Sys2Proof.Machine.execAddcbRbData3 n d s
  | .addcbRegData8 r d => Sys2Proof.Machine.execAddcbRegData8 r d s
  | .addcbRegMem r a => Sys2Proof.Machine.execAddcbRegMem r a s
  | .addcbMemReg a r => Sys2Proof.Machine.execAddcbMemReg a r s
  | .subRwRw n m => Sys2Proof.Machine.execSubRwRw n m s
  | .subRwInd n x => Sys2Proof.Machine.execSubRwInd n x s
  | .subRwIndInc n x => Sys2Proof.Machine.execSubRwIndInc n x s
  | .subRwData3 n d => Sys2Proof.Machine.execSubRwData3 n d s
  | .subRegData16 r d => Sys2Proof.Machine.execSubRegData16 r d s
  | .subRegMem r a => Sys2Proof.Machine.execSubRegMem r a s
  | .subMemReg a r => Sys2Proof.Machine.execSubMemReg a r s
  | .subbRbRb n m => Sys2Proof.Machine.execSubbRbRb n m s
  | .subbRbInd n x => Sys2Proof.Machine.execSubbRbInd n x s
  | .subbRbIndInc n x => Sys2Proof.Machine.execSubbRbIndInc n x s
  | .subbRbData3 n d => Sys2Proof.Machine.execSubbRbData3 n d s
  | .subbRegData8 r d => Sys2Proof.Machine.execSubbRegData8 r d s
  | .subbRegMem r a => Sys2Proof.Machine.execSubbRegMem r a s
  | .subbMemReg a r => Sys2Proof.Machine.execSubbMemReg a r s
  | .subcRwRw n m => Sys2Proof.Machine.execSubcRwRw n m s
  | .subcRwInd n x => Sys2Proof.Machine.execSubcRwInd n x s
  | .subcRwIndInc n x => Sys2Proof.Machine.execSubcRwIndInc n x s
  | .subcRwData3 n d => Sys2Proof.Machine.execSubcRwData3 n d s
  | .subcRegData16 r d => Sys2Proof.Machine.execSubcRegData16 r d s
  | .subcRegMem r a => Sys2Proof.Machine.execSubcRegMem r a s
  | .subcMemReg a r => Sys2Proof.Machine.execSubcMemReg a r s
  | .subcbRbRb n m => Sys2Proof.Machine.execSubcbRbRb n m s
  | .subcbRbInd n x => Sys2Proof.Machine.execSubcbRbInd n x s
  | .subcbRbIndInc n x => Sys2Proof.Machine.execSubcbRbIndInc n x s
  | .subcbRbData3 n d => Sys2Proof.Machine.execSubcbRbData3 n d s
  | .subcbRegData8 r d => Sys2Proof.Machine.execSubcbRegData8 r d s
  | .subcbRegMem r a => Sys2Proof.Machine.execSubcbRegMem r a s
  | .subcbMemReg a r => Sys2Proof.Machine.execSubcbMemReg a r s
  | .cmpRwRw n m => Sys2Proof.Machine.execCmpRwRw n m s
  | .cmpRwInd n x => Sys2Proof.Machine.execCmpRwInd n x s
  | .cmpRwIndInc n x => Sys2Proof.Machine.execCmpRwIndInc n x s
  | .cmpRwData3 n d => Sys2Proof.Machine.execCmpRwData3 n d s
  | .cmpRegData16 r d => Sys2Proof.Machine.execCmpRegData16 r d s
  | .cmpRegMem r a => Sys2Proof.Machine.execCmpRegMem r a s
  | .cmpbRbRb n m => Sys2Proof.Machine.execCmpbRbRb n m s
  | .cmpbRbInd n x => Sys2Proof.Machine.execCmpbRbInd n x s
  | .cmpbRbIndInc n x => Sys2Proof.Machine.execCmpbRbIndInc n x s
  | .cmpbRbData3 n d => Sys2Proof.Machine.execCmpbRbData3 n d s
  | .cmpbRegData8 r d => Sys2Proof.Machine.execCmpbRegData8 r d s
  | .cmpbRegMem r a => Sys2Proof.Machine.execCmpbRegMem r a s
  | .xorRwRw n m => Sys2Proof.Machine.execXorRwRw n m s
  | .xorRwInd n x => Sys2Proof.Machine.execXorRwInd n x s
  | .xorRwIndInc n x => Sys2Proof.Machine.execXorRwIndInc n x s
  | .xorRwData3 n d => Sys2Proof.Machine.execXorRwData3 n d s
  | .xorRegData16 r d => Sys2Proof.Machine.execXorRegData16 r d s
  | .xorRegMem r a => Sys2Proof.Machine.execXorRegMem r a s
  | .xorMemReg a r => Sys2Proof.Machine.execXorMemReg a r s
  | .xorbRbRb n m => Sys2Proof.Machine.execXorbRbRb n m s
  | .xorbRbInd n x => Sys2Proof.Machine.execXorbRbInd n x s
  | .xorbRbIndInc n x => Sys2Proof.Machine.execXorbRbIndInc n x s
  | .xorbRbData3 n d => Sys2Proof.Machine.execXorbRbData3 n d s
  | .xorbRegData8 r d => Sys2Proof.Machine.execXorbRegData8 r d s
  | .xorbRegMem r a => Sys2Proof.Machine.execXorbRegMem r a s
  | .xorbMemReg a r => Sys2Proof.Machine.execXorbMemReg a r s
  | .andRwRw n m => Sys2Proof.Machine.execAndRwRw n m s
  | .andRwInd n x => Sys2Proof.Machine.execAndRwInd n x s
  | .andRwIndInc n x => Sys2Proof.Machine.execAndRwIndInc n x s
  | .andRwData3 n d => Sys2Proof.Machine.execAndRwData3 n d s
  | .andRegData16 r d => Sys2Proof.Machine.execAndRegData16 r d s
  | .andRegMem r a => Sys2Proof.Machine.execAndRegMem r a s
  | .andMemReg a r => Sys2Proof.Machine.execAndMemReg a r s
  | .andbRbRb n m => Sys2Proof.Machine.execAndbRbRb n m s
  | .andbRbInd n x => Sys2Proof.Machine.execAndbRbInd n x s
  | .andbRbIndInc n x => Sys2Proof.Machine.execAndbRbIndInc n x s
  | .andbRbData3 n d => Sys2Proof.Machine.execAndbRbData3 n d s
  | .andbRegData8 r d => Sys2Proof.Machine.execAndbRegData8 r d s
  | .andbRegMem r a => Sys2Proof.Machine.execAndbRegMem r a s
  | .andbMemReg a r => Sys2Proof.Machine.execAndbMemReg a r s
  | .orRwRw n m => Sys2Proof.Machine.execOrRwRw n m s
  | .orRwInd n x => Sys2Proof.Machine.execOrRwInd n x s
  | .orRwIndInc n x => Sys2Proof.Machine.execOrRwIndInc n x s
  | .orRwData3 n d => Sys2Proof.Machine.execOrRwData3 n d s
  | .orRegData16 r d => Sys2Proof.Machine.execOrRegData16 r d s
  | .orRegMem r a => Sys2Proof.Machine.execOrRegMem r a s
  | .orMemReg a r => Sys2Proof.Machine.execOrMemReg a r s
  | .orbRbRb n m => Sys2Proof.Machine.execOrbRbRb n m s
  | .orbRbInd n x => Sys2Proof.Machine.execOrbRbInd n x s
  | .orbRbIndInc n x => Sys2Proof.Machine.execOrbRbIndInc n x s
  | .orbRbData3 n d => Sys2Proof.Machine.execOrbRbData3 n d s
  | .orbRegData8 r d => Sys2Proof.Machine.execOrbRegData8 r d s
  | .orbRegMem r a => Sys2Proof.Machine.execOrbRegMem r a s
  | .orbMemReg a r => Sys2Proof.Machine.execOrbMemReg a r s
  | .rolRwRw n m => Sys2Proof.Machine.execRolRwRw n m s
  | .rolRwData4 n d => Sys2Proof.Machine.execRolRwData4 n d s
  | .rorRwRw n m => Sys2Proof.Machine.execRorRwRw n m s
  | .rorRwData4 n d => Sys2Proof.Machine.execRorRwData4 n d s
  | .shlRwRw n m => Sys2Proof.Machine.execShlRwRw n m s
  | .shlRwData4 n d => Sys2Proof.Machine.execShlRwData4 n d s
  | .shrRwRw n m => Sys2Proof.Machine.execShrRwRw n m s
  | .shrRwData4 n d => Sys2Proof.Machine.execShrRwData4 n d s
  | .ashrRwRw n m => Sys2Proof.Machine.execAshrRwRw n m s
  | .ashrRwData4 n d => Sys2Proof.Machine.execAshrRwData4 n d s
  | .priorRwRw n m => Sys2Proof.Machine.execPriorRwRw n m s
  | .atomic g => Sys2Proof.Machine.execAtomic g s
  | .extr g => Sys2Proof.Machine.execExtr g s
  | .extsRw m g => Sys2Proof.Machine.execExtsRw m g s
  | .extsSeg sg g => Sys2Proof.Machine.execExtsSeg sg g s
  | .extpRw m g => Sys2Proof.Machine.execExtpRw m g s
  | .extpPag p g => Sys2Proof.Machine.execExtpPag p g s
  | .extsrRw m g => Sys2Proof.Machine.execExtsrRw m g s
  | .extsrSeg sg g => Sys2Proof.Machine.execExtsrSeg sg g s
  | .extprRw m g => Sys2Proof.Machine.execExtprRw m g s
  | .extprPag p g => Sys2Proof.Machine.execExtprPag p g s
  | .bfldl q mask d => Sys2Proof.Machine.execBfldl q mask d s
  | .bfldh q mask d => Sys2Proof.Machine.execBfldh q mask d s
  | .bcmp dst src => Sys2Proof.Machine.execBcmp dst src s
  | .bmovn dst src => Sys2Proof.Machine.execBmovn dst src s
  | .bmov dst src => Sys2Proof.Machine.execBmov dst src s
  | .bor dst src => Sys2Proof.Machine.execBor dst src s
  | .band dst src => Sys2Proof.Machine.execBand dst src s
  | .bxor dst src => Sys2Proof.Machine.execBxor dst src s
  | .jb b rel => Sys2Proof.Machine.execJb b rel s
  | .jnb b rel => Sys2Proof.Machine.execJnb b rel s
  | .jbc b rel => Sys2Proof.Machine.execJbc b rel s
  | .jnbs b rel => Sys2Proof.Machine.execJnbs b rel s
  | .bclr b => Sys2Proof.Machine.execBclr b s
  | .bset b => Sys2Proof.Machine.execBset b s
  | .calla cc a => Sys2Proof.Machine.execCalla cc a s
  | .jmpa cc a => Sys2Proof.Machine.execJmpa cc a s
  | .calli cc n => Sys2Proof.Machine.execCalli cc n s
  | .jmpi cc n => Sys2Proof.Machine.execJmpi cc n s
  | .callr rel => Sys2Proof.Machine.execCallr rel s
  | .jmpr cc rel => Sys2Proof.Machine.execJmpr cc rel s
  | .calls sg a => Sys2Proof.Machine.execCalls sg a s
  | .jmps sg a => Sys2Proof.Machine.execJmps sg a s
  | .pcall r a => Sys2Proof.Machine.execPcall r a s
  | .ret => Sys2Proof.Machine.execRet s
  | .rets => Sys2Proof.Machine.execRets s
  | .reti => Sys2Proof.Machine.execReti s
  | .retp r => Sys2Proof.Machine.execRetp r s
  | .trap t => Sys2Proof.Machine.execTrap t s
  | .cmpi1RwData4 n d => Sys2Proof.Machine.execCmpi1RwData4 n d s
  | .cmpi1RwData16 n d => Sys2Proof.Machine.execCmpi1RwData16 n d s
  | .cmpi1RwMem n a => Sys2Proof.Machine.execCmpi1RwMem n a s
  | .cmpi2RwData4 n d => Sys2Proof.Machine.execCmpi2RwData4 n d s
  | .cmpi2RwData16 n d => Sys2Proof.Machine.execCmpi2RwData16 n d s
  | .cmpi2RwMem n a => Sys2Proof.Machine.execCmpi2RwMem n a s
  | .cmpd1RwData4 n d => Sys2Proof.Machine.execCmpd1RwData4 n d s
  | .cmpd1RwData16 n d => Sys2Proof.Machine.execCmpd1RwData16 n d s
  | .cmpd1RwMem n a => Sys2Proof.Machine.execCmpd1RwMem n a s
  | .cmpd2RwData4 n d => Sys2Proof.Machine.execCmpd2RwData4 n d s
  | .cmpd2RwData16 n d => Sys2Proof.Machine.execCmpd2RwData16 n d s
  | .cmpd2RwMem n a => Sys2Proof.Machine.execCmpd2RwMem n a s
  | .neg n => Sys2Proof.Machine.execNeg n s
  | .cpl n => Sys2Proof.Machine.execCpl n s
  | .negb n => Sys2Proof.Machine.execNegb n s
  | .cplb n => Sys2Proof.Machine.execCplb n s
  | .diswdt => Sys2Proof.Machine.execDiswdt s
  | .einit => Sys2Proof.Machine.execEinit s
  | .idle => Sys2Proof.Machine.execIdle s
  | .pwrdn => Sys2Proof.Machine.execPwrdn s
  | .srst => Sys2Proof.Machine.execSrst s
  | .srvwdt => Sys2Proof.Machine.execSrvwdt s
  | .nop => Sys2Proof.Machine.execNop s
  | .mulRwRw n m => Sys2Proof.Machine.execMulRwRw n m s
  | .muluRwRw n m => Sys2Proof.Machine.execMuluRwRw n m s
  | .div n => Sys2Proof.Machine.execDiv n s
  | .divu n => Sys2Proof.Machine.execDivu n s
  | .divl n => Sys2Proof.Machine.execDivl n s
  | .divlu n => Sys2Proof.Machine.execDivlu n s
  | .movRwRw n m => Sys2Proof.Machine.execMovRwRw n m s
  | .movRwData4 n d => Sys2Proof.Machine.execMovRwData4 n d s
  | .movRegData16 r d => Sys2Proof.Machine.execMovRegData16 r d s
  | .movRwInd n m => Sys2Proof.Machine.execMovRwInd n m s
  | .movRwIndInc n m => Sys2Proof.Machine.execMovRwIndInc n m s
  | .movIndRw m n => Sys2Proof.Machine.execMovIndRw m n s
  | .movIndDecRw m n => Sys2Proof.Machine.execMovIndDecRw m n s
  | .movIndInd n m => Sys2Proof.Machine.execMovIndInd n m s
  | .movIndIncInd n m => Sys2Proof.Machine.execMovIndIncInd n m s
  | .movIndIndInc n m => Sys2Proof.Machine.execMovIndIndInc n m s
  | .movRwIndDisp n m d => Sys2Proof.Machine.execMovRwIndDisp n m d s
  | .movIndDispRw m d n => Sys2Proof.Machine.execMovIndDispRw m d n s
  | .movIndMem n a => Sys2Proof.Machine.execMovIndMem n a s
  | .movMemInd a n => Sys2Proof.Machine.execMovMemInd a n s
  | .movRegMem r a => Sys2Proof.Machine.execMovRegMem r a s
  | .movMemReg a r => Sys2Proof.Machine.execMovMemReg a r s
  | .movbRbRb n m => Sys2Proof.Machine.execMovbRbRb n m s
  | .movbRbData4 n d => Sys2Proof.Machine.execMovbRbData4 n d s
  | .movbRegData8 r d => Sys2Proof.Machine.execMovbRegData8 r d s
  | .movbRbInd n m => Sys2Proof.Machine.execMovbRbInd n m s
  | .movbRbIndInc n m => Sys2Proof.Machine.execMovbRbIndInc n m s
  | .movbIndRb m n => Sys2Proof.Machine.execMovbIndRb m n s
  | .movbIndDecRb m n => Sys2Proof.Machine.execMovbIndDecRb m n s
  | .movbIndInd n m => Sys2Proof.Machine.execMovbIndInd n m s
  | .movbIndIncInd n m => Sys2Proof.Machine.execMovbIndIncInd n m s
  | .movbIndIndInc n m => Sys2Proof.Machine.execMovbIndIndInc n m s
  | .movbRbIndDisp n m d => Sys2Proof.Machine.execMovbRbIndDisp n m d s
  | .movbIndDispRb m d n => Sys2Proof.Machine.execMovbIndDispRb m d n s
  | .movbIndMem n a => Sys2Proof.Machine.execMovbIndMem n a s
  | .movbMemInd a n => Sys2Proof.Machine.execMovbMemInd a n s
  | .movbRegMem r a => Sys2Proof.Machine.execMovbRegMem r a s
  | .movbMemReg a r => Sys2Proof.Machine.execMovbMemReg a r s
  | .movbsRwRb n m => Sys2Proof.Machine.execMovbsRwRb n m s
  | .movbsRegMem r a => Sys2Proof.Machine.execMovbsRegMem r a s
  | .movbsMemReg a r => Sys2Proof.Machine.execMovbsMemReg a r s
  | .movbszRwRb n m => Sys2Proof.Machine.execMovbszRwRb n m s
  | .movbszRegMem r a => Sys2Proof.Machine.execMovbszRegMem r a s
  | .movbszMemReg a r => Sys2Proof.Machine.execMovbszMemReg a r s
  | .pop r => Sys2Proof.Machine.execPop r s
  | .push r => Sys2Proof.Machine.execPush r s
  | .scxtRegData16 r d => Sys2Proof.Machine.execScxtRegData16 r d s
  | .scxtRegMem r a => Sys2Proof.Machine.execScxtRegMem r a s

end Sys2Proof.Machine
end

