-- ==== Sys2Proof/WellFormed.lean ====
section
/-! DEFINITION. Which instructions a device has (30_encoding.md R113, R118 items 1 and 6; 42_atomic_ext.md R228). The
fields of an instruction have the widths of their encodings, so nothing else can be ill-formed. -/

namespace Sys2Proof

/-- A segment number the device has: with `SEG_BITS` = 2 a nonzero upper part is reserved (R113, D9). -/
def Device.segOk (d : Device) (sg : Byte) : Bool :=
  match d.segWidth with
  | .eight => true
  | .two => decide (sg.toNat < 4)

/-- The instruction exists on the device: a sequence instruction needs `HAS_EXT` (R228), a segment operand must be a
segment number of the device (R113). -/
def Instr.wf (dv : Device) : Instr → Bool
  | .addRwRw _ _ => true
  | .addRwInd _ _ => true
  | .addRwIndInc _ _ => true
  | .addRwData3 _ _ => true
  | .addRegData16 _ _ => true
  | .addRegMem _ _ => true
  | .addMemReg _ _ => true
  | .addbRbRb _ _ => true
  | .addbRbInd _ _ => true
  | .addbRbIndInc _ _ => true
  | .addbRbData3 _ _ => true
  | .addbRegData8 _ _ => true
  | .addbRegMem _ _ => true
  | .addbMemReg _ _ => true
  | .addcRwRw _ _ => true
  | .addcRwInd _ _ => true
  | .addcRwIndInc _ _ => true
  | .addcRwData3 _ _ => true
  | .addcRegData16 _ _ => true
  | .addcRegMem _ _ => true
  | .addcMemReg _ _ => true
  | .addcbRbRb _ _ => true
  | .addcbRbInd _ _ => true
  | .addcbRbIndInc _ _ => true
  | .addcbRbData3 _ _ => true
  | .addcbRegData8 _ _ => true
  | .addcbRegMem _ _ => true
  | .addcbMemReg _ _ => true
  | .subRwRw _ _ => true
  | .subRwInd _ _ => true
  | .subRwIndInc _ _ => true
  | .subRwData3 _ _ => true
  | .subRegData16 _ _ => true
  | .subRegMem _ _ => true
  | .subMemReg _ _ => true
  | .subbRbRb _ _ => true
  | .subbRbInd _ _ => true
  | .subbRbIndInc _ _ => true
  | .subbRbData3 _ _ => true
  | .subbRegData8 _ _ => true
  | .subbRegMem _ _ => true
  | .subbMemReg _ _ => true
  | .subcRwRw _ _ => true
  | .subcRwInd _ _ => true
  | .subcRwIndInc _ _ => true
  | .subcRwData3 _ _ => true
  | .subcRegData16 _ _ => true
  | .subcRegMem _ _ => true
  | .subcMemReg _ _ => true
  | .subcbRbRb _ _ => true
  | .subcbRbInd _ _ => true
  | .subcbRbIndInc _ _ => true
  | .subcbRbData3 _ _ => true
  | .subcbRegData8 _ _ => true
  | .subcbRegMem _ _ => true
  | .subcbMemReg _ _ => true
  | .cmpRwRw _ _ => true
  | .cmpRwInd _ _ => true
  | .cmpRwIndInc _ _ => true
  | .cmpRwData3 _ _ => true
  | .cmpRegData16 _ _ => true
  | .cmpRegMem _ _ => true
  | .cmpbRbRb _ _ => true
  | .cmpbRbInd _ _ => true
  | .cmpbRbIndInc _ _ => true
  | .cmpbRbData3 _ _ => true
  | .cmpbRegData8 _ _ => true
  | .cmpbRegMem _ _ => true
  | .xorRwRw _ _ => true
  | .xorRwInd _ _ => true
  | .xorRwIndInc _ _ => true
  | .xorRwData3 _ _ => true
  | .xorRegData16 _ _ => true
  | .xorRegMem _ _ => true
  | .xorMemReg _ _ => true
  | .xorbRbRb _ _ => true
  | .xorbRbInd _ _ => true
  | .xorbRbIndInc _ _ => true
  | .xorbRbData3 _ _ => true
  | .xorbRegData8 _ _ => true
  | .xorbRegMem _ _ => true
  | .xorbMemReg _ _ => true
  | .andRwRw _ _ => true
  | .andRwInd _ _ => true
  | .andRwIndInc _ _ => true
  | .andRwData3 _ _ => true
  | .andRegData16 _ _ => true
  | .andRegMem _ _ => true
  | .andMemReg _ _ => true
  | .andbRbRb _ _ => true
  | .andbRbInd _ _ => true
  | .andbRbIndInc _ _ => true
  | .andbRbData3 _ _ => true
  | .andbRegData8 _ _ => true
  | .andbRegMem _ _ => true
  | .andbMemReg _ _ => true
  | .orRwRw _ _ => true
  | .orRwInd _ _ => true
  | .orRwIndInc _ _ => true
  | .orRwData3 _ _ => true
  | .orRegData16 _ _ => true
  | .orRegMem _ _ => true
  | .orMemReg _ _ => true
  | .orbRbRb _ _ => true
  | .orbRbInd _ _ => true
  | .orbRbIndInc _ _ => true
  | .orbRbData3 _ _ => true
  | .orbRegData8 _ _ => true
  | .orbRegMem _ _ => true
  | .orbMemReg _ _ => true
  | .rolRwRw _ _ => true
  | .rolRwData4 _ _ => true
  | .rorRwRw _ _ => true
  | .rorRwData4 _ _ => true
  | .shlRwRw _ _ => true
  | .shlRwData4 _ _ => true
  | .shrRwRw _ _ => true
  | .shrRwData4 _ _ => true
  | .ashrRwRw _ _ => true
  | .ashrRwData4 _ _ => true
  | .priorRwRw _ _ => true
  | .atomic _ => dv.hasExt
  | .extr _ => dv.hasExt
  | .extsRw _ _ => dv.hasExt
  | .extsSeg sg _ => dv.hasExt && dv.segOk sg
  | .extpRw _ _ => dv.hasExt
  | .extpPag _ _ => dv.hasExt
  | .extsrRw _ _ => dv.hasExt
  | .extsrSeg sg _ => dv.hasExt && dv.segOk sg
  | .extprRw _ _ => dv.hasExt
  | .extprPag _ _ => dv.hasExt
  | .bfldl _ _ _ => true
  | .bfldh _ _ _ => true
  | .bcmp _ _ => true
  | .bmovn _ _ => true
  | .bmov _ _ => true
  | .bor _ _ => true
  | .band _ _ => true
  | .bxor _ _ => true
  | .jb _ _ => true
  | .jnb _ _ => true
  | .jbc _ _ => true
  | .jnbs _ _ => true
  | .bclr _ => true
  | .bset _ => true
  | .calla _ _ => true
  | .jmpa _ _ => true
  | .calli _ _ => true
  | .jmpi _ _ => true
  | .callr _ => true
  | .jmpr _ _ => true
  | .calls sg _ => dv.segOk sg
  | .jmps sg _ => dv.segOk sg
  | .pcall _ _ => true
  | .ret => true
  | .rets => true
  | .reti => true
  | .retp _ => true
  | .trap _ => true
  | .cmpi1RwData4 _ _ => true
  | .cmpi1RwData16 _ _ => true
  | .cmpi1RwMem _ _ => true
  | .cmpi2RwData4 _ _ => true
  | .cmpi2RwData16 _ _ => true
  | .cmpi2RwMem _ _ => true
  | .cmpd1RwData4 _ _ => true
  | .cmpd1RwData16 _ _ => true
  | .cmpd1RwMem _ _ => true
  | .cmpd2RwData4 _ _ => true
  | .cmpd2RwData16 _ _ => true
  | .cmpd2RwMem _ _ => true
  | .neg _ => true
  | .cpl _ => true
  | .negb _ => true
  | .cplb _ => true
  | .diswdt => true
  | .einit => true
  | .idle => true
  | .pwrdn => true
  | .srst => true
  | .srvwdt => true
  | .nop => true
  | .mulRwRw _ _ => true
  | .muluRwRw _ _ => true
  | .div _ => true
  | .divu _ => true
  | .divl _ => true
  | .divlu _ => true
  | .movRwRw _ _ => true
  | .movRwData4 _ _ => true
  | .movRegData16 _ _ => true
  | .movRwInd _ _ => true
  | .movRwIndInc _ _ => true
  | .movIndRw _ _ => true
  | .movIndDecRw _ _ => true
  | .movIndInd _ _ => true
  | .movIndIncInd _ _ => true
  | .movIndIndInc _ _ => true
  | .movRwIndDisp _ _ _ => true
  | .movIndDispRw _ _ _ => true
  | .movIndMem _ _ => true
  | .movMemInd _ _ => true
  | .movRegMem _ _ => true
  | .movMemReg _ _ => true
  | .movbRbRb _ _ => true
  | .movbRbData4 _ _ => true
  | .movbRegData8 _ _ => true
  | .movbRbInd _ _ => true
  | .movbRbIndInc _ _ => true
  | .movbIndRb _ _ => true
  | .movbIndDecRb _ _ => true
  | .movbIndInd _ _ => true
  | .movbIndIncInd _ _ => true
  | .movbIndIndInc _ _ => true
  | .movbRbIndDisp _ _ _ => true
  | .movbIndDispRb _ _ _ => true
  | .movbIndMem _ _ => true
  | .movbMemInd _ _ => true
  | .movbRegMem _ _ => true
  | .movbMemReg _ _ => true
  | .movbsRwRb _ _ => true
  | .movbsRegMem _ _ => true
  | .movbsMemReg _ _ => true
  | .movbszRwRb _ _ => true
  | .movbszRegMem _ _ => true
  | .movbszMemReg _ _ => true
  | .pop _ => true
  | .push _ => true
  | .scxtRegData16 _ _ => true
  | .scxtRegMem _ _ => true

end Sys2Proof
end

