-- ==== Sys2Proof/Decode.lean ====
section
/-! DEFINITION. Decoding and encoding (30_encoding.md R100 to R118): the bytes b0, b1, b2, b3 in ascending address
order (R62). `decode` is total; a reserved encoding is rejected by name (R118). -/

namespace Sys2Proof

/-- `v[3:0]`. -/
def lo4 (b : Byte) : BitVec 4 := b.extractLsb' 0 4

/-- `v[7:4]`. -/
def hi4 (b : Byte) : BitVec 4 := b.extractLsb' 4 4

/-- `w[7:0]` (R5). -/
def lowByte (w : Word) : Byte := w.extractLsb' 0 8

/-- `w[15:8]` (R5). -/
def highByte (w : Word) : Byte := w.extractLsb' 8 8

/-- The 16-bit field `b3:b2`, low byte first (R62, R102). -/
def field16 (b2 b3 : Byte) : Word := b3 ++ b2

/-- The condition code a 4-bit field selects (R270); all 16 values are assigned (R114). -/
def Cond.ofBits (b : BitVec 4) : Cond :=
  match b.toNat with
  | 0 => .uc | 1 => .net | 2 => .z | 3 => .nz | 4 => .v | 5 => .nv | 6 => .n | 7 => .nn
  | 8 => .c | 9 => .nc | 10 => .sgt | 11 => .sle | 12 => .slt | 13 => .sge | 14 => .ugt | _ => .ule

/-- The number of a condition code (R270). -/
def Cond.toBits : Cond → BitVec 4
  | .uc => 0 | .net => 1 | .z => 2 | .nz => 3 | .v => 4 | .nv => 5 | .n => 6 | .nn => 7
  | .c => 8 | .nc => 9 | .sgt => 10 | .sle => 11 | .slt => 12 | .sge => 13 | .ugt => 14 | .ule => 15

/-- The length in bytes follows from the low nibble of b0 (R101). -/
def lengthOf (b0 : Byte) : Nat :=
  match (lo4 b0).toNat with
  | 2 | 3 | 4 | 5 | 6 | 7 | 10 => 4
  | _ => 2

/-- The operand byte `n:10ii`, `n:11ii` or `n:0###` of the columns x8 and x9 (R103, OP_n_sub). -/
def decodeSub (b1 : Byte) (ind indInc : BitVec 4 → BitVec 2 → Instr) (data3 : BitVec 4 → BitVec 3 → Instr) : Instr :=
  if b1.extractLsb' 3 1 = 0#1 then data3 (hi4 b1) (b1.extractLsb' 0 3)
  else if b1.extractLsb' 2 1 = 0#1 then ind (hi4 b1) (b1.extractLsb' 0 2)
  else indInc (hi4 b1) (b1.extractLsb' 0 2)

/-- An encoding with fixed bits: the instruction if they match, else reserved (R118 items 2 to 4). -/
def fixedBits (ok : Bool) (i : Instr) : Option Instr := if ok then some i else none

/-- The 2-byte sequence instructions: b1[7:6] selects, g = b1[5:4] (R103 OP_ext, OP_ext_m). -/
def decodeSequence2 (b0 b1 : Byte) : Option Instr :=
  let g := b1.extractLsb' 4 2
  match b0 == 0xD1, (b1.extractLsb' 6 2).toNat with
  | true, 0 => fixedBits (lo4 b1 == 0) (.atomic g)
  | true, 2 => fixedBits (lo4 b1 == 0) (.extr g)
  | true, _ => none
  | false, 0 => some (.extsRw (lo4 b1) g)
  | false, 1 => some (.extpRw (lo4 b1) g)
  | false, 2 => some (.extsrRw (lo4 b1) g)
  | false, _ => some (.extprRw (lo4 b1) g)

/-- The 4-byte sequence instructions `D7` (R103 OP_ext_seg, OP_ext_pag). -/
def decodeSequence4 (b1 b2 b3 : Byte) : Option Instr :=
  let g := b1.extractLsb' 4 2
  let page : BitVec 10 := b3.extractLsb' 0 2 ++ b2
  let pageOk := lo4 b1 == 0 && b3.extractLsb' 2 6 == 0
  match (b1.extractLsb' 6 2).toNat with
  | 0 => fixedBits (lo4 b1 == 0 && b3 == 0) (.extsSeg b2 g)
  | 1 => fixedBits pageOk (.extpPag page g)
  | 2 => fixedBits (lo4 b1 == 0 && b3 == 0) (.extsrSeg b2 g)
  | _ => fixedBits pageOk (.extprPag page g)

/-- The 2-byte instructions whose b0 is an operation code (R117). -/
def decodeOp2 (b0 b1 : Byte) : Option Instr :=
  match b0.toNat with
  | 0x00 => some (.addRwRw (hi4 b1) (lo4 b1))
  | 0x01 => some (.addbRbRb (hi4 b1) (lo4 b1))
  | 0x08 => some (decodeSub b1 .addRwInd .addRwIndInc .addRwData3)
  | 0x09 => some (decodeSub b1 .addbRbInd .addbRbIndInc .addbRbData3)
  | 0x0B => some (.mulRwRw (hi4 b1) (lo4 b1))
  | 0x0C => some (.rolRwRw (hi4 b1) (lo4 b1))
  | 0x10 => some (.addcRwRw (hi4 b1) (lo4 b1))
  | 0x11 => some (.addcbRbRb (hi4 b1) (lo4 b1))
  | 0x18 => some (decodeSub b1 .addcRwInd .addcRwIndInc .addcRwData3)
  | 0x19 => some (decodeSub b1 .addcbRbInd .addcbRbIndInc .addcbRbData3)
  | 0x1B => some (.muluRwRw (hi4 b1) (lo4 b1))
  | 0x1C => some (.rolRwData4 (lo4 b1) (hi4 b1))
  | 0x20 => some (.subRwRw (hi4 b1) (lo4 b1))
  | 0x21 => some (.subbRbRb (hi4 b1) (lo4 b1))
  | 0x28 => some (decodeSub b1 .subRwInd .subRwIndInc .subRwData3)
  | 0x29 => some (decodeSub b1 .subbRbInd .subbRbIndInc .subbRbData3)
  | 0x2B => some (.priorRwRw (hi4 b1) (lo4 b1))
  | 0x2C => some (.rorRwRw (hi4 b1) (lo4 b1))
  | 0x30 => some (.subcRwRw (hi4 b1) (lo4 b1))
  | 0x31 => some (.subcbRbRb (hi4 b1) (lo4 b1))
  | 0x38 => some (decodeSub b1 .subcRwInd .subcRwIndInc .subcRwData3)
  | 0x39 => some (decodeSub b1 .subcbRbInd .subcbRbIndInc .subcbRbData3)
  | 0x3C => some (.rorRwData4 (lo4 b1) (hi4 b1))
  | 0x40 => some (.cmpRwRw (hi4 b1) (lo4 b1))
  | 0x41 => some (.cmpbRbRb (hi4 b1) (lo4 b1))
  | 0x48 => some (decodeSub b1 .cmpRwInd .cmpRwIndInc .cmpRwData3)
  | 0x49 => some (decodeSub b1 .cmpbRbInd .cmpbRbIndInc .cmpbRbData3)
  | 0x4B => fixedBits (hi4 b1 == lo4 b1) (.div (hi4 b1))
  | 0x4C => some (.shlRwRw (hi4 b1) (lo4 b1))
  | 0x50 => some (.xorRwRw (hi4 b1) (lo4 b1))
  | 0x51 => some (.xorbRbRb (hi4 b1) (lo4 b1))
  | 0x58 => some (decodeSub b1 .xorRwInd .xorRwIndInc .xorRwData3)
  | 0x59 => some (decodeSub b1 .xorbRbInd .xorbRbIndInc .xorbRbData3)
  | 0x5B => fixedBits (hi4 b1 == lo4 b1) (.divu (hi4 b1))
  | 0x5C => some (.shlRwData4 (lo4 b1) (hi4 b1))
  | 0x60 => some (.andRwRw (hi4 b1) (lo4 b1))
  | 0x61 => some (.andbRbRb (hi4 b1) (lo4 b1))
  | 0x68 => some (decodeSub b1 .andRwInd .andRwIndInc .andRwData3)
  | 0x69 => some (decodeSub b1 .andbRbInd .andbRbIndInc .andbRbData3)
  | 0x6B => fixedBits (hi4 b1 == lo4 b1) (.divl (hi4 b1))
  | 0x6C => some (.shrRwRw (hi4 b1) (lo4 b1))
  | 0x70 => some (.orRwRw (hi4 b1) (lo4 b1))
  | 0x71 => some (.orbRbRb (hi4 b1) (lo4 b1))
  | 0x78 => some (decodeSub b1 .orRwInd .orRwIndInc .orRwData3)
  | 0x79 => some (decodeSub b1 .orbRbInd .orbRbIndInc .orbRbData3)
  | 0x7B => fixedBits (hi4 b1 == lo4 b1) (.divlu (hi4 b1))
  | 0x7C => some (.shrRwData4 (lo4 b1) (hi4 b1))
  | 0x80 => some (.cmpi1RwData4 (lo4 b1) (hi4 b1))
  | 0x81 => fixedBits (lo4 b1 == 0) (.neg (hi4 b1))
  | 0x88 => some (.movIndDecRw (lo4 b1) (hi4 b1))
  | 0x89 => some (.movbIndDecRb (lo4 b1) (hi4 b1))
  | 0x90 => some (.cmpi2RwData4 (lo4 b1) (hi4 b1))
  | 0x91 => fixedBits (lo4 b1 == 0) (.cpl (hi4 b1))
  | 0x98 => some (.movRwIndInc (hi4 b1) (lo4 b1))
  | 0x99 => some (.movbRbIndInc (hi4 b1) (lo4 b1))
  | 0x9B => fixedBits (b1.extractLsb' 0 1 == 0) (.trap (b1.extractLsb' 1 7))
  | 0x9C => some (.jmpi (Cond.ofBits (hi4 b1)) (lo4 b1))
  | 0xA0 => some (.cmpd1RwData4 (lo4 b1) (hi4 b1))
  | 0xA1 => fixedBits (lo4 b1 == 0) (.negb (hi4 b1))
  | 0xA8 => some (.movRwInd (hi4 b1) (lo4 b1))
  | 0xA9 => some (.movbRbInd (hi4 b1) (lo4 b1))
  | 0xAB => some (.calli (Cond.ofBits (hi4 b1)) (lo4 b1))
  | 0xAC => some (.ashrRwRw (hi4 b1) (lo4 b1))
  | 0xB0 => some (.cmpd2RwData4 (lo4 b1) (hi4 b1))
  | 0xB1 => fixedBits (lo4 b1 == 0) (.cplb (hi4 b1))
  | 0xB8 => some (.movIndRw (lo4 b1) (hi4 b1))
  | 0xB9 => some (.movbIndRb (lo4 b1) (hi4 b1))
  | 0xBB => some (.callr b1)
  | 0xBC => some (.ashrRwData4 (lo4 b1) (hi4 b1))
  | 0xC0 => some (.movbszRwRb (lo4 b1) (hi4 b1))
  | 0xC8 => some (.movIndInd (hi4 b1) (lo4 b1))
  | 0xC9 => some (.movbIndInd (hi4 b1) (lo4 b1))
  | 0xCB => fixedBits (b1 == 0x00) .ret
  | 0xCC => fixedBits (b1 == 0x00) .nop
  | 0xD0 => some (.movbsRwRb (lo4 b1) (hi4 b1))
  | 0xD1 => decodeSequence2 b0 b1
  | 0xD8 => some (.movIndIncInd (hi4 b1) (lo4 b1))
  | 0xD9 => some (.movbIndIncInd (hi4 b1) (lo4 b1))
  | 0xDB => fixedBits (b1 == 0x00) .rets
  | 0xDC => decodeSequence2 b0 b1
  | 0xE0 => some (.movRwData4 (lo4 b1) (hi4 b1))
  | 0xE1 => some (.movbRbData4 (lo4 b1) (hi4 b1))
  | 0xE8 => some (.movIndIndInc (hi4 b1) (lo4 b1))
  | 0xE9 => some (.movbIndIndInc (hi4 b1) (lo4 b1))
  | 0xEB => some (.retp b1)
  | 0xEC => some (.push b1)
  | 0xF0 => some (.movRwRw (hi4 b1) (lo4 b1))
  | 0xF1 => some (.movbRbRb (hi4 b1) (lo4 b1))
  | 0xFB => fixedBits (b1 == 0x88) .reti
  | 0xFC => some (.pop b1)
  | _ => none

/-- The 2-byte instructions: in columns D, E, F of the opcode map the high nibble of b0 is a field (R100, R117). -/
def decode2 (b0 b1 : Byte) : Option Instr :=
  match (lo4 b0).toNat with
  | 0xD => some (.jmpr (Cond.ofBits (hi4 b0)) b1)
  | 0xE => some (.bclr ⟨b1, hi4 b0⟩)
  | 0xF => some (.bset ⟨b1, hi4 b0⟩)
  | _ => decodeOp2 b0 b1

/-- The 4-byte instructions (R117). -/
def decode4 (b0 b1 b2 b3 : Byte) : Option Instr :=
  match b0.toNat with
  | 0x02 => some (.addRegMem b1 (field16 b2 b3))
  | 0x03 => some (.addbRegMem b1 (field16 b2 b3))
  | 0x04 => some (.addMemReg (field16 b2 b3) b1)
  | 0x05 => some (.addbMemReg (field16 b2 b3) b1)
  | 0x06 => some (.addRegData16 b1 (field16 b2 b3))
  | 0x07 => some (.addbRegData8 b1 b2)
  | 0x0A => some (.bfldl b1 b2 b3)
  | 0x12 => some (.addcRegMem b1 (field16 b2 b3))
  | 0x13 => some (.addcbRegMem b1 (field16 b2 b3))
  | 0x14 => some (.addcMemReg (field16 b2 b3) b1)
  | 0x15 => some (.addcbMemReg (field16 b2 b3) b1)
  | 0x16 => some (.addcRegData16 b1 (field16 b2 b3))
  | 0x17 => some (.addcbRegData8 b1 b2)
  | 0x1A => some (.bfldh b1 b3 b2)
  | 0x22 => some (.subRegMem b1 (field16 b2 b3))
  | 0x23 => some (.subbRegMem b1 (field16 b2 b3))
  | 0x24 => some (.subMemReg (field16 b2 b3) b1)
  | 0x25 => some (.subbMemReg (field16 b2 b3) b1)
  | 0x26 => some (.subRegData16 b1 (field16 b2 b3))
  | 0x27 => some (.subbRegData8 b1 b2)
  | 0x2A => some (.bcmp ⟨b2, lo4 b3⟩ ⟨b1, hi4 b3⟩)
  | 0x32 => some (.subcRegMem b1 (field16 b2 b3))
  | 0x33 => some (.subcbRegMem b1 (field16 b2 b3))
  | 0x34 => some (.subcMemReg (field16 b2 b3) b1)
  | 0x35 => some (.subcbMemReg (field16 b2 b3) b1)
  | 0x36 => some (.subcRegData16 b1 (field16 b2 b3))
  | 0x37 => some (.subcbRegData8 b1 b2)
  | 0x3A => some (.bmovn ⟨b2, lo4 b3⟩ ⟨b1, hi4 b3⟩)
  | 0x42 => some (.cmpRegMem b1 (field16 b2 b3))
  | 0x43 => some (.cmpbRegMem b1 (field16 b2 b3))
  | 0x46 => some (.cmpRegData16 b1 (field16 b2 b3))
  | 0x47 => some (.cmpbRegData8 b1 b2)
  | 0x4A => some (.bmov ⟨b2, lo4 b3⟩ ⟨b1, hi4 b3⟩)
  | 0x52 => some (.xorRegMem b1 (field16 b2 b3))
  | 0x53 => some (.xorbRegMem b1 (field16 b2 b3))
  | 0x54 => some (.xorMemReg (field16 b2 b3) b1)
  | 0x55 => some (.xorbMemReg (field16 b2 b3) b1)
  | 0x56 => some (.xorRegData16 b1 (field16 b2 b3))
  | 0x57 => some (.xorbRegData8 b1 b2)
  | 0x5A => some (.bor ⟨b2, lo4 b3⟩ ⟨b1, hi4 b3⟩)
  | 0x62 => some (.andRegMem b1 (field16 b2 b3))
  | 0x63 => some (.andbRegMem b1 (field16 b2 b3))
  | 0x64 => some (.andMemReg (field16 b2 b3) b1)
  | 0x65 => some (.andbMemReg (field16 b2 b3) b1)
  | 0x66 => some (.andRegData16 b1 (field16 b2 b3))
  | 0x67 => some (.andbRegData8 b1 b2)
  | 0x6A => some (.band ⟨b2, lo4 b3⟩ ⟨b1, hi4 b3⟩)
  | 0x72 => some (.orRegMem b1 (field16 b2 b3))
  | 0x73 => some (.orbRegMem b1 (field16 b2 b3))
  | 0x74 => some (.orMemReg (field16 b2 b3) b1)
  | 0x75 => some (.orbMemReg (field16 b2 b3) b1)
  | 0x76 => some (.orRegData16 b1 (field16 b2 b3))
  | 0x77 => some (.orbRegData8 b1 b2)
  | 0x7A => some (.bxor ⟨b2, lo4 b3⟩ ⟨b1, hi4 b3⟩)
  | 0x82 => fixedBits (hi4 b1 == 0xF) (.cmpi1RwMem (lo4 b1) (field16 b2 b3))
  | 0x84 => fixedBits (hi4 b1 == 0) (.movIndMem (lo4 b1) (field16 b2 b3))
  | 0x86 => fixedBits (hi4 b1 == 0xF) (.cmpi1RwData16 (lo4 b1) (field16 b2 b3))
  | 0x87 => fixedBits (b1 == 0x78 && b2 == 0x87 && b3 == 0x87) .idle
  | 0x8A => fixedBits (lo4 b3 == 0) (.jb ⟨b1, hi4 b3⟩ b2)
  | 0x92 => fixedBits (hi4 b1 == 0xF) (.cmpi2RwMem (lo4 b1) (field16 b2 b3))
  | 0x94 => fixedBits (hi4 b1 == 0) (.movMemInd (field16 b2 b3) (lo4 b1))
  | 0x96 => fixedBits (hi4 b1 == 0xF) (.cmpi2RwData16 (lo4 b1) (field16 b2 b3))
  | 0x97 => fixedBits (b1 == 0x68 && b2 == 0x97 && b3 == 0x97) .pwrdn
  | 0x9A => fixedBits (lo4 b3 == 0) (.jnb ⟨b1, hi4 b3⟩ b2)
  | 0xA2 => fixedBits (hi4 b1 == 0xF) (.cmpd1RwMem (lo4 b1) (field16 b2 b3))
  | 0xA4 => fixedBits (hi4 b1 == 0) (.movbIndMem (lo4 b1) (field16 b2 b3))
  | 0xA5 => fixedBits (b1 == 0x5A && b2 == 0xA5 && b3 == 0xA5) .diswdt
  | 0xA6 => fixedBits (hi4 b1 == 0xF) (.cmpd1RwData16 (lo4 b1) (field16 b2 b3))
  | 0xA7 => fixedBits (b1 == 0x58 && b2 == 0xA7 && b3 == 0xA7) .srvwdt
  | 0xAA => fixedBits (lo4 b3 == 0) (.jbc ⟨b1, hi4 b3⟩ b2)
  | 0xB2 => fixedBits (hi4 b1 == 0xF) (.cmpd2RwMem (lo4 b1) (field16 b2 b3))
  | 0xB4 => fixedBits (hi4 b1 == 0) (.movbMemInd (field16 b2 b3) (lo4 b1))
  | 0xB5 => fixedBits (b1 == 0x4A && b2 == 0xB5 && b3 == 0xB5) .einit
  | 0xB6 => fixedBits (hi4 b1 == 0xF) (.cmpd2RwData16 (lo4 b1) (field16 b2 b3))
  | 0xB7 => fixedBits (b1 == 0x48 && b2 == 0xB7 && b3 == 0xB7) .srst
  | 0xBA => fixedBits (lo4 b3 == 0) (.jnbs ⟨b1, hi4 b3⟩ b2)
  | 0xC2 => some (.movbszRegMem b1 (field16 b2 b3))
  | 0xC4 => some (.movIndDispRw (lo4 b1) (field16 b2 b3) (hi4 b1))
  | 0xC5 => some (.movbszMemReg (field16 b2 b3) b1)
  | 0xC6 => some (.scxtRegData16 b1 (field16 b2 b3))
  | 0xCA => fixedBits (lo4 b1 == 0) (.calla (Cond.ofBits (hi4 b1)) (field16 b2 b3))
  | 0xD2 => some (.movbsRegMem b1 (field16 b2 b3))
  | 0xD4 => some (.movRwIndDisp (hi4 b1) (lo4 b1) (field16 b2 b3))
  | 0xD5 => some (.movbsMemReg (field16 b2 b3) b1)
  | 0xD6 => some (.scxtRegMem b1 (field16 b2 b3))
  | 0xD7 => decodeSequence4 b1 b2 b3
  | 0xDA => some (.calls b1 (field16 b2 b3))
  | 0xE2 => some (.pcall b1 (field16 b2 b3))
  | 0xE4 => some (.movbIndDispRb (lo4 b1) (field16 b2 b3) (hi4 b1))
  | 0xE6 => some (.movRegData16 b1 (field16 b2 b3))
  | 0xE7 => some (.movbRegData8 b1 b2)
  | 0xEA => fixedBits (lo4 b1 == 0) (.jmpa (Cond.ofBits (hi4 b1)) (field16 b2 b3))
  | 0xF2 => some (.movRegMem b1 (field16 b2 b3))
  | 0xF3 => some (.movbRegMem b1 (field16 b2 b3))
  | 0xF4 => some (.movbRbIndDisp (hi4 b1) (lo4 b1) (field16 b2 b3))
  | 0xF6 => some (.movMemReg (field16 b2 b3) b1)
  | 0xF7 => some (.movbMemReg (field16 b2 b3) b1)
  | 0xFA => some (.jmps b1 (field16 b2 b3))
  | _ => none

/-- The operation codes of the protected instructions (45_system.md R310). -/
def isProtected (b0 : Byte) : Bool :=
  b0 == 0x87 || b0 == 0x97 || b0 == 0xA5 || b0 == 0xA7 || b0 == 0xB5 || b0 == 0xB7

/-- What decoding gives: an instruction and the bytes after it, a reserved encoding (R118 items 1 to 4), a protected
instruction with wrong bytes (R118 item 5, R310), or too few bytes. -/
inductive Decoded where
  | instr (i : Instr) (rest : List Byte)
  | undefinedOpcode (b0 b1 : Byte)
  | protectionMismatch (b0 b1 b2 b3 : Byte)
  | truncated
  deriving DecidableEq, Repr

/-- The result of a 2-byte decode. -/
def Decoded.of2 (b0 b1 : Byte) (rest : List Byte) : Option Instr → Decoded
  | some i => .instr i rest
  | none => .undefinedOpcode b0 b1

/-- The result of a 4-byte decode; what matches no row is a reserved encoding or a damaged protected one. -/
def Decoded.of4 (b0 b1 b2 b3 : Byte) (rest : List Byte) : Option Instr → Decoded
  | some i => .instr i rest
  | none => if isProtected b0 then .protectionMismatch b0 b1 b2 b3 else .undefinedOpcode b0 b1

/-- The first instruction of a list of bytes (R100, R101, R117, R118). -/
def decode : List Byte → Decoded
  | b0 :: b1 :: rest =>
    if lengthOf b0 = 2 then .of2 b0 b1 rest (decode2 b0 b1)
    else match rest with
      | b2 :: b3 :: rest => .of4 b0 b1 b2 b3 rest (decode4 b0 b1 b2 b3)
      | _ => .truncated
  | _ => .truncated

/-- The bytes of an instruction (R103); the byte `xx` whose value has no meaning is 0x00 (R111). -/
def encode : Instr → List Byte
  | .addRwRw n m => [0x00, n ++ m]
  | .addRwInd n i => [0x08, n ++ 2#2 ++ i]
  | .addRwIndInc n i => [0x08, n ++ 3#2 ++ i]
  | .addRwData3 n d => [0x08, n ++ 0#1 ++ d]
  | .addRegData16 r d => [0x06, r, lowByte d, highByte d]
  | .addRegMem r a => [0x02, r, lowByte a, highByte a]
  | .addMemReg a r => [0x04, r, lowByte a, highByte a]
  | .addbRbRb n m => [0x01, n ++ m]
  | .addbRbInd n i => [0x09, n ++ 2#2 ++ i]
  | .addbRbIndInc n i => [0x09, n ++ 3#2 ++ i]
  | .addbRbData3 n d => [0x09, n ++ 0#1 ++ d]
  | .addbRegData8 r d => [0x07, r, d, 0]
  | .addbRegMem r a => [0x03, r, lowByte a, highByte a]
  | .addbMemReg a r => [0x05, r, lowByte a, highByte a]
  | .addcRwRw n m => [0x10, n ++ m]
  | .addcRwInd n i => [0x18, n ++ 2#2 ++ i]
  | .addcRwIndInc n i => [0x18, n ++ 3#2 ++ i]
  | .addcRwData3 n d => [0x18, n ++ 0#1 ++ d]
  | .addcRegData16 r d => [0x16, r, lowByte d, highByte d]
  | .addcRegMem r a => [0x12, r, lowByte a, highByte a]
  | .addcMemReg a r => [0x14, r, lowByte a, highByte a]
  | .addcbRbRb n m => [0x11, n ++ m]
  | .addcbRbInd n i => [0x19, n ++ 2#2 ++ i]
  | .addcbRbIndInc n i => [0x19, n ++ 3#2 ++ i]
  | .addcbRbData3 n d => [0x19, n ++ 0#1 ++ d]
  | .addcbRegData8 r d => [0x17, r, d, 0]
  | .addcbRegMem r a => [0x13, r, lowByte a, highByte a]
  | .addcbMemReg a r => [0x15, r, lowByte a, highByte a]
  | .subRwRw n m => [0x20, n ++ m]
  | .subRwInd n i => [0x28, n ++ 2#2 ++ i]
  | .subRwIndInc n i => [0x28, n ++ 3#2 ++ i]
  | .subRwData3 n d => [0x28, n ++ 0#1 ++ d]
  | .subRegData16 r d => [0x26, r, lowByte d, highByte d]
  | .subRegMem r a => [0x22, r, lowByte a, highByte a]
  | .subMemReg a r => [0x24, r, lowByte a, highByte a]
  | .subbRbRb n m => [0x21, n ++ m]
  | .subbRbInd n i => [0x29, n ++ 2#2 ++ i]
  | .subbRbIndInc n i => [0x29, n ++ 3#2 ++ i]
  | .subbRbData3 n d => [0x29, n ++ 0#1 ++ d]
  | .subbRegData8 r d => [0x27, r, d, 0]
  | .subbRegMem r a => [0x23, r, lowByte a, highByte a]
  | .subbMemReg a r => [0x25, r, lowByte a, highByte a]
  | .subcRwRw n m => [0x30, n ++ m]
  | .subcRwInd n i => [0x38, n ++ 2#2 ++ i]
  | .subcRwIndInc n i => [0x38, n ++ 3#2 ++ i]
  | .subcRwData3 n d => [0x38, n ++ 0#1 ++ d]
  | .subcRegData16 r d => [0x36, r, lowByte d, highByte d]
  | .subcRegMem r a => [0x32, r, lowByte a, highByte a]
  | .subcMemReg a r => [0x34, r, lowByte a, highByte a]
  | .subcbRbRb n m => [0x31, n ++ m]
  | .subcbRbInd n i => [0x39, n ++ 2#2 ++ i]
  | .subcbRbIndInc n i => [0x39, n ++ 3#2 ++ i]
  | .subcbRbData3 n d => [0x39, n ++ 0#1 ++ d]
  | .subcbRegData8 r d => [0x37, r, d, 0]
  | .subcbRegMem r a => [0x33, r, lowByte a, highByte a]
  | .subcbMemReg a r => [0x35, r, lowByte a, highByte a]
  | .cmpRwRw n m => [0x40, n ++ m]
  | .cmpRwInd n i => [0x48, n ++ 2#2 ++ i]
  | .cmpRwIndInc n i => [0x48, n ++ 3#2 ++ i]
  | .cmpRwData3 n d => [0x48, n ++ 0#1 ++ d]
  | .cmpRegData16 r d => [0x46, r, lowByte d, highByte d]
  | .cmpRegMem r a => [0x42, r, lowByte a, highByte a]
  | .cmpbRbRb n m => [0x41, n ++ m]
  | .cmpbRbInd n i => [0x49, n ++ 2#2 ++ i]
  | .cmpbRbIndInc n i => [0x49, n ++ 3#2 ++ i]
  | .cmpbRbData3 n d => [0x49, n ++ 0#1 ++ d]
  | .cmpbRegData8 r d => [0x47, r, d, 0]
  | .cmpbRegMem r a => [0x43, r, lowByte a, highByte a]
  | .xorRwRw n m => [0x50, n ++ m]
  | .xorRwInd n i => [0x58, n ++ 2#2 ++ i]
  | .xorRwIndInc n i => [0x58, n ++ 3#2 ++ i]
  | .xorRwData3 n d => [0x58, n ++ 0#1 ++ d]
  | .xorRegData16 r d => [0x56, r, lowByte d, highByte d]
  | .xorRegMem r a => [0x52, r, lowByte a, highByte a]
  | .xorMemReg a r => [0x54, r, lowByte a, highByte a]
  | .xorbRbRb n m => [0x51, n ++ m]
  | .xorbRbInd n i => [0x59, n ++ 2#2 ++ i]
  | .xorbRbIndInc n i => [0x59, n ++ 3#2 ++ i]
  | .xorbRbData3 n d => [0x59, n ++ 0#1 ++ d]
  | .xorbRegData8 r d => [0x57, r, d, 0]
  | .xorbRegMem r a => [0x53, r, lowByte a, highByte a]
  | .xorbMemReg a r => [0x55, r, lowByte a, highByte a]
  | .andRwRw n m => [0x60, n ++ m]
  | .andRwInd n i => [0x68, n ++ 2#2 ++ i]
  | .andRwIndInc n i => [0x68, n ++ 3#2 ++ i]
  | .andRwData3 n d => [0x68, n ++ 0#1 ++ d]
  | .andRegData16 r d => [0x66, r, lowByte d, highByte d]
  | .andRegMem r a => [0x62, r, lowByte a, highByte a]
  | .andMemReg a r => [0x64, r, lowByte a, highByte a]
  | .andbRbRb n m => [0x61, n ++ m]
  | .andbRbInd n i => [0x69, n ++ 2#2 ++ i]
  | .andbRbIndInc n i => [0x69, n ++ 3#2 ++ i]
  | .andbRbData3 n d => [0x69, n ++ 0#1 ++ d]
  | .andbRegData8 r d => [0x67, r, d, 0]
  | .andbRegMem r a => [0x63, r, lowByte a, highByte a]
  | .andbMemReg a r => [0x65, r, lowByte a, highByte a]
  | .orRwRw n m => [0x70, n ++ m]
  | .orRwInd n i => [0x78, n ++ 2#2 ++ i]
  | .orRwIndInc n i => [0x78, n ++ 3#2 ++ i]
  | .orRwData3 n d => [0x78, n ++ 0#1 ++ d]
  | .orRegData16 r d => [0x76, r, lowByte d, highByte d]
  | .orRegMem r a => [0x72, r, lowByte a, highByte a]
  | .orMemReg a r => [0x74, r, lowByte a, highByte a]
  | .orbRbRb n m => [0x71, n ++ m]
  | .orbRbInd n i => [0x79, n ++ 2#2 ++ i]
  | .orbRbIndInc n i => [0x79, n ++ 3#2 ++ i]
  | .orbRbData3 n d => [0x79, n ++ 0#1 ++ d]
  | .orbRegData8 r d => [0x77, r, d, 0]
  | .orbRegMem r a => [0x73, r, lowByte a, highByte a]
  | .orbMemReg a r => [0x75, r, lowByte a, highByte a]
  | .rolRwRw n m => [0x0C, n ++ m]
  | .rolRwData4 n d => [0x1C, d ++ n]
  | .rorRwRw n m => [0x2C, n ++ m]
  | .rorRwData4 n d => [0x3C, d ++ n]
  | .shlRwRw n m => [0x4C, n ++ m]
  | .shlRwData4 n d => [0x5C, d ++ n]
  | .shrRwRw n m => [0x6C, n ++ m]
  | .shrRwData4 n d => [0x7C, d ++ n]
  | .ashrRwRw n m => [0xAC, n ++ m]
  | .ashrRwData4 n d => [0xBC, d ++ n]
  | .priorRwRw n m => [0x2B, n ++ m]
  | .atomic g => [0xD1, 0#2 ++ g ++ 0#4]
  | .extr g => [0xD1, 2#2 ++ g ++ 0#4]
  | .extsRw m g => [0xDC, 0#2 ++ g ++ m]
  | .extsSeg sg g => [0xD7, 0#2 ++ g ++ 0#4, sg, 0]
  | .extpRw m g => [0xDC, 1#2 ++ g ++ m]
  | .extpPag p g => [0xD7, 1#2 ++ g ++ 0#4, p.extractLsb' 0 8, 0#6 ++ p.extractLsb' 8 2]
  | .extsrRw m g => [0xDC, 2#2 ++ g ++ m]
  | .extsrSeg sg g => [0xD7, 2#2 ++ g ++ 0#4, sg, 0]
  | .extprRw m g => [0xDC, 3#2 ++ g ++ m]
  | .extprPag p g => [0xD7, 3#2 ++ g ++ 0#4, p.extractLsb' 0 8, 0#6 ++ p.extractLsb' 8 2]
  | .bfldl q mask d => [0x0A, q, mask, d]
  | .bfldh q mask d => [0x1A, q, d, mask]
  | .bcmp dst src => [0x2A, src.word, dst.word, src.bit ++ dst.bit]
  | .bmovn dst src => [0x3A, src.word, dst.word, src.bit ++ dst.bit]
  | .bmov dst src => [0x4A, src.word, dst.word, src.bit ++ dst.bit]
  | .bor dst src => [0x5A, src.word, dst.word, src.bit ++ dst.bit]
  | .band dst src => [0x6A, src.word, dst.word, src.bit ++ dst.bit]
  | .bxor dst src => [0x7A, src.word, dst.word, src.bit ++ dst.bit]
  | .jb b rel => [0x8A, b.word, rel, b.bit ++ 0#4]
  | .jnb b rel => [0x9A, b.word, rel, b.bit ++ 0#4]
  | .jbc b rel => [0xAA, b.word, rel, b.bit ++ 0#4]
  | .jnbs b rel => [0xBA, b.word, rel, b.bit ++ 0#4]
  | .bclr b => [b.bit ++ 0xE#4, b.word]
  | .bset b => [b.bit ++ 0xF#4, b.word]
  | .calla cc a => [0xCA, cc.toBits ++ 0#4, lowByte a, highByte a]
  | .jmpa cc a => [0xEA, cc.toBits ++ 0#4, lowByte a, highByte a]
  | .calli cc n => [0xAB, cc.toBits ++ n]
  | .jmpi cc n => [0x9C, cc.toBits ++ n]
  | .callr rel => [0xBB, rel]
  | .jmpr cc rel => [cc.toBits ++ 0xD#4, rel]
  | .calls sg a => [0xDA, sg, lowByte a, highByte a]
  | .jmps sg a => [0xFA, sg, lowByte a, highByte a]
  | .pcall r a => [0xE2, r, lowByte a, highByte a]
  | .ret => [0xCB, 0x00]
  | .rets => [0xDB, 0x00]
  | .reti => [0xFB, 0x88]
  | .retp r => [0xEB, r]
  | .trap t => [0x9B, t ++ 0#1]
  | .cmpi1RwData4 n d => [0x80, d ++ n]
  | .cmpi1RwData16 n d => [0x86, 0xF#4 ++ n, lowByte d, highByte d]
  | .cmpi1RwMem n a => [0x82, 0xF#4 ++ n, lowByte a, highByte a]
  | .cmpi2RwData4 n d => [0x90, d ++ n]
  | .cmpi2RwData16 n d => [0x96, 0xF#4 ++ n, lowByte d, highByte d]
  | .cmpi2RwMem n a => [0x92, 0xF#4 ++ n, lowByte a, highByte a]
  | .cmpd1RwData4 n d => [0xA0, d ++ n]
  | .cmpd1RwData16 n d => [0xA6, 0xF#4 ++ n, lowByte d, highByte d]
  | .cmpd1RwMem n a => [0xA2, 0xF#4 ++ n, lowByte a, highByte a]
  | .cmpd2RwData4 n d => [0xB0, d ++ n]
  | .cmpd2RwData16 n d => [0xB6, 0xF#4 ++ n, lowByte d, highByte d]
  | .cmpd2RwMem n a => [0xB2, 0xF#4 ++ n, lowByte a, highByte a]
  | .neg n => [0x81, n ++ 0#4]
  | .cpl n => [0x91, n ++ 0#4]
  | .negb n => [0xA1, n ++ 0#4]
  | .cplb n => [0xB1, n ++ 0#4]
  | .diswdt => [0xA5, 0x5A, 0xA5, 0xA5]
  | .einit => [0xB5, 0x4A, 0xB5, 0xB5]
  | .idle => [0x87, 0x78, 0x87, 0x87]
  | .pwrdn => [0x97, 0x68, 0x97, 0x97]
  | .srst => [0xB7, 0x48, 0xB7, 0xB7]
  | .srvwdt => [0xA7, 0x58, 0xA7, 0xA7]
  | .nop => [0xCC, 0x00]
  | .mulRwRw n m => [0x0B, n ++ m]
  | .muluRwRw n m => [0x1B, n ++ m]
  | .div n => [0x4B, n ++ n]
  | .divu n => [0x5B, n ++ n]
  | .divl n => [0x6B, n ++ n]
  | .divlu n => [0x7B, n ++ n]
  | .movRwRw n m => [0xF0, n ++ m]
  | .movRwData4 n d => [0xE0, d ++ n]
  | .movRegData16 r d => [0xE6, r, lowByte d, highByte d]
  | .movRwInd n m => [0xA8, n ++ m]
  | .movRwIndInc n m => [0x98, n ++ m]
  | .movIndRw m n => [0xB8, n ++ m]
  | .movIndDecRw m n => [0x88, n ++ m]
  | .movIndInd n m => [0xC8, n ++ m]
  | .movIndIncInd n m => [0xD8, n ++ m]
  | .movIndIndInc n m => [0xE8, n ++ m]
  | .movRwIndDisp n m d => [0xD4, n ++ m, lowByte d, highByte d]
  | .movIndDispRw m d n => [0xC4, n ++ m, lowByte d, highByte d]
  | .movIndMem n a => [0x84, 0#4 ++ n, lowByte a, highByte a]
  | .movMemInd a n => [0x94, 0#4 ++ n, lowByte a, highByte a]
  | .movRegMem r a => [0xF2, r, lowByte a, highByte a]
  | .movMemReg a r => [0xF6, r, lowByte a, highByte a]
  | .movbRbRb n m => [0xF1, n ++ m]
  | .movbRbData4 n d => [0xE1, d ++ n]
  | .movbRegData8 r d => [0xE7, r, d, 0]
  | .movbRbInd n m => [0xA9, n ++ m]
  | .movbRbIndInc n m => [0x99, n ++ m]
  | .movbIndRb m n => [0xB9, n ++ m]
  | .movbIndDecRb m n => [0x89, n ++ m]
  | .movbIndInd n m => [0xC9, n ++ m]
  | .movbIndIncInd n m => [0xD9, n ++ m]
  | .movbIndIndInc n m => [0xE9, n ++ m]
  | .movbRbIndDisp n m d => [0xF4, n ++ m, lowByte d, highByte d]
  | .movbIndDispRb m d n => [0xE4, n ++ m, lowByte d, highByte d]
  | .movbIndMem n a => [0xA4, 0#4 ++ n, lowByte a, highByte a]
  | .movbMemInd a n => [0xB4, 0#4 ++ n, lowByte a, highByte a]
  | .movbRegMem r a => [0xF3, r, lowByte a, highByte a]
  | .movbMemReg a r => [0xF7, r, lowByte a, highByte a]
  | .movbsRwRb n m => [0xD0, m ++ n]
  | .movbsRegMem r a => [0xD2, r, lowByte a, highByte a]
  | .movbsMemReg a r => [0xD5, r, lowByte a, highByte a]
  | .movbszRwRb n m => [0xC0, m ++ n]
  | .movbszRegMem r a => [0xC2, r, lowByte a, highByte a]
  | .movbszMemReg a r => [0xC5, r, lowByte a, highByte a]
  | .pop r => [0xFC, r]
  | .push r => [0xEC, r]
  | .scxtRegData16 r d => [0xC6, r, lowByte d, highByte d]
  | .scxtRegMem r a => [0xD6, r, lowByte a, highByte a]

/-- The bytes of an instruction written as one number, its first byte the most significant, as
spec/opcode_table.json numbers the bits of a row (log entry 42); a 2-byte instruction is followed by zeros. -/
def tableBytes (nbits w : Nat) : List Byte :=
  if nbits ≤ 16 then [BitVec.ofNat 8 (w / 256), BitVec.ofNat 8 w, 0, 0]
  else [BitVec.ofNat 8 (w / 16777216), BitVec.ofNat 8 (w / 65536), BitVec.ofNat 8 (w / 256), BitVec.ofNat 8 w]

/-- The instruction the decoder reads from the instruction of `nbits` bits whose number is `w`. -/
def decodeTableWord (nbits w : Nat) : Option Instr :=
  match decode (tableBytes nbits w) with
  | .instr i _ => some i
  | _ => none

end Sys2Proof
end

