-- ==== Sys2Proof/Machine/Fetch.lean ====
section
/-! DEFINITION. Fetching and decoding an instruction (00_scope.md R13 items 3 and 4; 10_state.md R23, R24; 20_memory.md
R76, R81). -/

namespace Sys2Proof.Machine

/-- The physical address of the fetched byte `k`: `CSP[SEG_BITS-1:0] : (IP + k)`, the sum inside the segment (R23, R76). -/
def codeAddr (s : State) (k : Nat) : PhysAddr :=
  truncateAddr s.cfg.device ((maskSeg s.cfg.device s.csp).extractLsb' 0 8 ++ (s.ip + BitVec.ofNat 16 k))

/-- The fetched byte `k`: from RAM or ROM only (R76), not from the bank of a register file
(10_state.md R22), and, with `cfg.selfModifying = refuse`, not one that a store has changed (R81). Log entries 14, 53. -/
def fetchByte (s : State) (k : Nat) : Res Byte :=
  let pa := codeAddr s k
  match classify s.cfg pa with
  | .ram =>
    if inFile s.cfg pa then .error (.refuse (.registerFile pa))
    else if s.cfg.selfModifying = .refuse ∧ pa.toNat ∈ s.changed then .error (.refuse (.selfModifiedCode pa))
    else .ok (s.mem.get pa.toNat)
  | .rom => .ok (s.mem.get pa.toNat)
  | _ => .error (.refuse (.fetchOutsideMemory pa))

/-- The bytes of the instruction at (CSP, IP): two, or four as b0 says (R13 item 3). -/
def fetchBytes (s : State) : Res (List Byte) := do
  let b0 ← fetchByte s 0
  let b1 ← fetchByte s 1
  if lengthOf b0 = 2 then .ok [b0, b1]
  else do
    let b2 ← fetchByte s 2
    let b3 ← fetchByte s 3
    .ok [b0, b1, b2, b3]

/-- The instruction fetched bytes stand for, on the device (R13 item 4; 30_encoding.md R118; 45_system.md R310). The
arm `truncated` is not reached: `fetchBytes` gives as many bytes as b0 asks for. -/
def instrOf (d : Device) (bytes : List Byte) : Res Instr :=
  match decode bytes with
  | .instr i _ =>
    if i.wf d then .ok i
    else .error (.trap (.undefinedOpcode (bytes.getD 0 0) (bytes.getD 1 0)))
  | .undefinedOpcode b0 b1 => .error (.trap (.undefinedOpcode b0 b1))
  | .protectionMismatch b0 b1 b2 b3 => .error (.trap (.protectionFault b0 b1 b2 b3))
  | .truncated => .error (.trap (.undefinedOpcode (bytes.getD 0 0) (bytes.getD 1 0)))

/-- The instruction at (CSP, IP); an odd IP raises IllegalInstructionAccess before anything is read
(44_call_jump_return.md R290; 60_exceptions.md R406). Log entry 34. -/
def fetchInstr (s : State) : Res Instr :=
  if s.ip.getLsbD 0 then .error (.trap (.illegalInstructionAccess s.ip))
  else do
    let bytes ← fetchBytes s
    instrOf s.cfg.device bytes

/-- Bytes laid at (CSP, IP), from byte `k` on, as a program loaded from outside the machine (log entry 38). -/
def placeBytes (k : Nat) (bytes : List Byte) (s : State) : State :=
  match bytes with
  | [] => s
  | b :: bytes =>
    placeBytes (k + 1) bytes
      { s with
        mem := s.mem.set (codeAddr s k).toNat b
        changed := s.changed.filter fun a => decide (a ≠ (codeAddr s k).toNat) }

end Sys2Proof.Machine
end

