-- ==== Sys2Proof/Machine/Hazard.lean ====
section
/-! DEFINITION. The register hazards of 70_reset_and_hazards.md R460: which instructions a model with
`PIPELINE_HAZARD_POLICY = refuse` does not run right after an explicit write of a core register. -/

namespace Sys2Proof.Machine

/-- An operand of an instruction, for R460: the location, the width of the access, and whether it is read. -/
structure Operand where
  loc : Loc
  width : Width
  reads : Bool
  deriving DecidableEq, Repr

/-- The location names a general register: Rw, Rb, `reg` or `bitoff` 0xF0 to 0xFF, a pointer (R460, row CP). -/
def Loc.namesGpr : Loc → Bool
  | .rw _ => true
  | .rb _ => true
  | .reg r => decide (r.extractLsb' 4 4 = 0xF#4)
  | .bitoff q => decide (q.extractLsb' 4 4 = 0xF#4)
  | .mem _ => false
  | .ind _ => true
  | .indInc _ => true
  | .indDec _ => true
  | .indDisp _ _ => true

/-- The location is reached by `mem` or `[...]` addressing (R460, rows DPP and SYSCON). -/
def Loc.inDataSpace : Loc → Bool
  | .rw _ => false
  | .rb _ => false
  | .reg _ => false
  | .bitoff _ => false
  | .mem _ => true
  | .ind _ => true
  | .indInc _ => true
  | .indDec _ => true
  | .indDisp _ _ => true

/-- The operand is PSW, read (R460, row PSW). -/
def Operand.readsPsw (o : Operand) (s : State) : Bool :=
  o.reads && match o.loc.addr o.width s with
    | .ok (pa, _) => decide (classify s.cfg pa = .core .psw)
    | .error _ => false

/-- The operands of an instruction, for R460. A WORD that a bit instruction changes is read (20_memory.md R74); the
destinations of MOV, MOVB, MOVBS, MOVBSZ, POP, RETP, PRIOR are not. -/
def operandsOf : Instr → List Operand
  | .addRwRw n m => [⟨.rw n, .word, true⟩, ⟨.rw m, .word, true⟩]
  | .addRwInd n i => [⟨.rw n, .word, true⟩, ⟨.ind (i.setWidth 4), .word, true⟩]
  | .addRwIndInc n i => [⟨.rw n, .word, true⟩, ⟨.indInc (i.setWidth 4), .word, true⟩]
  | .addRwData3 n _ => [⟨.rw n, .word, true⟩]
  | .addRegData16 r _ => [⟨.reg r, .word, true⟩]
  | .addRegMem r a => [⟨.reg r, .word, true⟩, ⟨.mem a, .word, true⟩]
  | .addMemReg a r => [⟨.mem a, .word, true⟩, ⟨.reg r, .word, true⟩]
  | .addbRbRb n m => [⟨.rb n, .byte, true⟩, ⟨.rb m, .byte, true⟩]
  | .addbRbInd n i => [⟨.rb n, .byte, true⟩, ⟨.ind (i.setWidth 4), .byte, true⟩]
  | .addbRbIndInc n i => [⟨.rb n, .byte, true⟩, ⟨.indInc (i.setWidth 4), .byte, true⟩]
  | .addbRbData3 n _ => [⟨.rb n, .byte, true⟩]
  | .addbRegData8 r _ => [⟨.reg r, .byte, true⟩]
  | .addbRegMem r a => [⟨.reg r, .byte, true⟩, ⟨.mem a, .byte, true⟩]
  | .addbMemReg a r => [⟨.mem a, .byte, true⟩, ⟨.reg r, .byte, true⟩]
  | .addcRwRw n m => [⟨.rw n, .word, true⟩, ⟨.rw m, .word, true⟩]
  | .addcRwInd n i => [⟨.rw n, .word, true⟩, ⟨.ind (i.setWidth 4), .word, true⟩]
  | .addcRwIndInc n i => [⟨.rw n, .word, true⟩, ⟨.indInc (i.setWidth 4), .word, true⟩]
  | .addcRwData3 n _ => [⟨.rw n, .word, true⟩]
  | .addcRegData16 r _ => [⟨.reg r, .word, true⟩]
  | .addcRegMem r a => [⟨.reg r, .word, true⟩, ⟨.mem a, .word, true⟩]
  | .addcMemReg a r => [⟨.mem a, .word, true⟩, ⟨.reg r, .word, true⟩]
  | .addcbRbRb n m => [⟨.rb n, .byte, true⟩, ⟨.rb m, .byte, true⟩]
  | .addcbRbInd n i => [⟨.rb n, .byte, true⟩, ⟨.ind (i.setWidth 4), .byte, true⟩]
  | .addcbRbIndInc n i => [⟨.rb n, .byte, true⟩, ⟨.indInc (i.setWidth 4), .byte, true⟩]
  | .addcbRbData3 n _ => [⟨.rb n, .byte, true⟩]
  | .addcbRegData8 r _ => [⟨.reg r, .byte, true⟩]
  | .addcbRegMem r a => [⟨.reg r, .byte, true⟩, ⟨.mem a, .byte, true⟩]
  | .addcbMemReg a r => [⟨.mem a, .byte, true⟩, ⟨.reg r, .byte, true⟩]
  | .subRwRw n m => [⟨.rw n, .word, true⟩, ⟨.rw m, .word, true⟩]
  | .subRwInd n i => [⟨.rw n, .word, true⟩, ⟨.ind (i.setWidth 4), .word, true⟩]
  | .subRwIndInc n i => [⟨.rw n, .word, true⟩, ⟨.indInc (i.setWidth 4), .word, true⟩]
  | .subRwData3 n _ => [⟨.rw n, .word, true⟩]
  | .subRegData16 r _ => [⟨.reg r, .word, true⟩]
  | .subRegMem r a => [⟨.reg r, .word, true⟩, ⟨.mem a, .word, true⟩]
  | .subMemReg a r => [⟨.mem a, .word, true⟩, ⟨.reg r, .word, true⟩]
  | .subbRbRb n m => [⟨.rb n, .byte, true⟩, ⟨.rb m, .byte, true⟩]
  | .subbRbInd n i => [⟨.rb n, .byte, true⟩, ⟨.ind (i.setWidth 4), .byte, true⟩]
  | .subbRbIndInc n i => [⟨.rb n, .byte, true⟩, ⟨.indInc (i.setWidth 4), .byte, true⟩]
  | .subbRbData3 n _ => [⟨.rb n, .byte, true⟩]
  | .subbRegData8 r _ => [⟨.reg r, .byte, true⟩]
  | .subbRegMem r a => [⟨.reg r, .byte, true⟩, ⟨.mem a, .byte, true⟩]
  | .subbMemReg a r => [⟨.mem a, .byte, true⟩, ⟨.reg r, .byte, true⟩]
  | .subcRwRw n m => [⟨.rw n, .word, true⟩, ⟨.rw m, .word, true⟩]
  | .subcRwInd n i => [⟨.rw n, .word, true⟩, ⟨.ind (i.setWidth 4), .word, true⟩]
  | .subcRwIndInc n i => [⟨.rw n, .word, true⟩, ⟨.indInc (i.setWidth 4), .word, true⟩]
  | .subcRwData3 n _ => [⟨.rw n, .word, true⟩]
  | .subcRegData16 r _ => [⟨.reg r, .word, true⟩]
  | .subcRegMem r a => [⟨.reg r, .word, true⟩, ⟨.mem a, .word, true⟩]
  | .subcMemReg a r => [⟨.mem a, .word, true⟩, ⟨.reg r, .word, true⟩]
  | .subcbRbRb n m => [⟨.rb n, .byte, true⟩, ⟨.rb m, .byte, true⟩]
  | .subcbRbInd n i => [⟨.rb n, .byte, true⟩, ⟨.ind (i.setWidth 4), .byte, true⟩]
  | .subcbRbIndInc n i => [⟨.rb n, .byte, true⟩, ⟨.indInc (i.setWidth 4), .byte, true⟩]
  | .subcbRbData3 n _ => [⟨.rb n, .byte, true⟩]
  | .subcbRegData8 r _ => [⟨.reg r, .byte, true⟩]
  | .subcbRegMem r a => [⟨.reg r, .byte, true⟩, ⟨.mem a, .byte, true⟩]
  | .subcbMemReg a r => [⟨.mem a, .byte, true⟩, ⟨.reg r, .byte, true⟩]
  | .cmpRwRw n m => [⟨.rw n, .word, true⟩, ⟨.rw m, .word, true⟩]
  | .cmpRwInd n i => [⟨.rw n, .word, true⟩, ⟨.ind (i.setWidth 4), .word, true⟩]
  | .cmpRwIndInc n i => [⟨.rw n, .word, true⟩, ⟨.indInc (i.setWidth 4), .word, true⟩]
  | .cmpRwData3 n _ => [⟨.rw n, .word, true⟩]
  | .cmpRegData16 r _ => [⟨.reg r, .word, true⟩]
  | .cmpRegMem r a => [⟨.reg r, .word, true⟩, ⟨.mem a, .word, true⟩]
  | .cmpbRbRb n m => [⟨.rb n, .byte, true⟩, ⟨.rb m, .byte, true⟩]
  | .cmpbRbInd n i => [⟨.rb n, .byte, true⟩, ⟨.ind (i.setWidth 4), .byte, true⟩]
  | .cmpbRbIndInc n i => [⟨.rb n, .byte, true⟩, ⟨.indInc (i.setWidth 4), .byte, true⟩]
  | .cmpbRbData3 n _ => [⟨.rb n, .byte, true⟩]
  | .cmpbRegData8 r _ => [⟨.reg r, .byte, true⟩]
  | .cmpbRegMem r a => [⟨.reg r, .byte, true⟩, ⟨.mem a, .byte, true⟩]
  | .xorRwRw n m => [⟨.rw n, .word, true⟩, ⟨.rw m, .word, true⟩]
  | .xorRwInd n i => [⟨.rw n, .word, true⟩, ⟨.ind (i.setWidth 4), .word, true⟩]
  | .xorRwIndInc n i => [⟨.rw n, .word, true⟩, ⟨.indInc (i.setWidth 4), .word, true⟩]
  | .xorRwData3 n _ => [⟨.rw n, .word, true⟩]
  | .xorRegData16 r _ => [⟨.reg r, .word, true⟩]
  | .xorRegMem r a => [⟨.reg r, .word, true⟩, ⟨.mem a, .word, true⟩]
  | .xorMemReg a r => [⟨.mem a, .word, true⟩, ⟨.reg r, .word, true⟩]
  | .xorbRbRb n m => [⟨.rb n, .byte, true⟩, ⟨.rb m, .byte, true⟩]
  | .xorbRbInd n i => [⟨.rb n, .byte, true⟩, ⟨.ind (i.setWidth 4), .byte, true⟩]
  | .xorbRbIndInc n i => [⟨.rb n, .byte, true⟩, ⟨.indInc (i.setWidth 4), .byte, true⟩]
  | .xorbRbData3 n _ => [⟨.rb n, .byte, true⟩]
  | .xorbRegData8 r _ => [⟨.reg r, .byte, true⟩]
  | .xorbRegMem r a => [⟨.reg r, .byte, true⟩, ⟨.mem a, .byte, true⟩]
  | .xorbMemReg a r => [⟨.mem a, .byte, true⟩, ⟨.reg r, .byte, true⟩]
  | .andRwRw n m => [⟨.rw n, .word, true⟩, ⟨.rw m, .word, true⟩]
  | .andRwInd n i => [⟨.rw n, .word, true⟩, ⟨.ind (i.setWidth 4), .word, true⟩]
  | .andRwIndInc n i => [⟨.rw n, .word, true⟩, ⟨.indInc (i.setWidth 4), .word, true⟩]
  | .andRwData3 n _ => [⟨.rw n, .word, true⟩]
  | .andRegData16 r _ => [⟨.reg r, .word, true⟩]
  | .andRegMem r a => [⟨.reg r, .word, true⟩, ⟨.mem a, .word, true⟩]
  | .andMemReg a r => [⟨.mem a, .word, true⟩, ⟨.reg r, .word, true⟩]
  | .andbRbRb n m => [⟨.rb n, .byte, true⟩, ⟨.rb m, .byte, true⟩]
  | .andbRbInd n i => [⟨.rb n, .byte, true⟩, ⟨.ind (i.setWidth 4), .byte, true⟩]
  | .andbRbIndInc n i => [⟨.rb n, .byte, true⟩, ⟨.indInc (i.setWidth 4), .byte, true⟩]
  | .andbRbData3 n _ => [⟨.rb n, .byte, true⟩]
  | .andbRegData8 r _ => [⟨.reg r, .byte, true⟩]
  | .andbRegMem r a => [⟨.reg r, .byte, true⟩, ⟨.mem a, .byte, true⟩]
  | .andbMemReg a r => [⟨.mem a, .byte, true⟩, ⟨.reg r, .byte, true⟩]
  | .orRwRw n m => [⟨.rw n, .word, true⟩, ⟨.rw m, .word, true⟩]
  | .orRwInd n i => [⟨.rw n, .word, true⟩, ⟨.ind (i.setWidth 4), .word, true⟩]
  | .orRwIndInc n i => [⟨.rw n, .word, true⟩, ⟨.indInc (i.setWidth 4), .word, true⟩]
  | .orRwData3 n _ => [⟨.rw n, .word, true⟩]
  | .orRegData16 r _ => [⟨.reg r, .word, true⟩]
  | .orRegMem r a => [⟨.reg r, .word, true⟩, ⟨.mem a, .word, true⟩]
  | .orMemReg a r => [⟨.mem a, .word, true⟩, ⟨.reg r, .word, true⟩]
  | .orbRbRb n m => [⟨.rb n, .byte, true⟩, ⟨.rb m, .byte, true⟩]
  | .orbRbInd n i => [⟨.rb n, .byte, true⟩, ⟨.ind (i.setWidth 4), .byte, true⟩]
  | .orbRbIndInc n i => [⟨.rb n, .byte, true⟩, ⟨.indInc (i.setWidth 4), .byte, true⟩]
  | .orbRbData3 n _ => [⟨.rb n, .byte, true⟩]
  | .orbRegData8 r _ => [⟨.reg r, .byte, true⟩]
  | .orbRegMem r a => [⟨.reg r, .byte, true⟩, ⟨.mem a, .byte, true⟩]
  | .orbMemReg a r => [⟨.mem a, .byte, true⟩, ⟨.reg r, .byte, true⟩]
  | .rolRwRw n m => [⟨.rw n, .word, true⟩, ⟨.rw m, .word, true⟩]
  | .rolRwData4 n _ => [⟨.rw n, .word, true⟩]
  | .rorRwRw n m => [⟨.rw n, .word, true⟩, ⟨.rw m, .word, true⟩]
  | .rorRwData4 n _ => [⟨.rw n, .word, true⟩]
  | .shlRwRw n m => [⟨.rw n, .word, true⟩, ⟨.rw m, .word, true⟩]
  | .shlRwData4 n _ => [⟨.rw n, .word, true⟩]
  | .shrRwRw n m => [⟨.rw n, .word, true⟩, ⟨.rw m, .word, true⟩]
  | .shrRwData4 n _ => [⟨.rw n, .word, true⟩]
  | .ashrRwRw n m => [⟨.rw n, .word, true⟩, ⟨.rw m, .word, true⟩]
  | .ashrRwData4 n _ => [⟨.rw n, .word, true⟩]
  | .priorRwRw n m => [⟨.rw n, .word, false⟩, ⟨.rw m, .word, true⟩]
  | .atomic _ => []
  | .extr _ => []
  | .extsRw m _ => [⟨.rw m, .word, true⟩]
  | .extsSeg _ _ => []
  | .extpRw m _ => [⟨.rw m, .word, true⟩]
  | .extpPag _ _ => []
  | .extsrRw m _ => [⟨.rw m, .word, true⟩]
  | .extsrSeg _ _ => []
  | .extprRw m _ => [⟨.rw m, .word, true⟩]
  | .extprPag _ _ => []
  | .bfldl q _ _ => [⟨.bitoff q, .word, true⟩]
  | .bfldh q _ _ => [⟨.bitoff q, .word, true⟩]
  | .bcmp dst src => [⟨.bitoff dst.word, .word, true⟩, ⟨.bitoff src.word, .word, true⟩]
  | .bmovn dst src => [⟨.bitoff dst.word, .word, true⟩, ⟨.bitoff src.word, .word, true⟩]
  | .bmov dst src => [⟨.bitoff dst.word, .word, true⟩, ⟨.bitoff src.word, .word, true⟩]
  | .bor dst src => [⟨.bitoff dst.word, .word, true⟩, ⟨.bitoff src.word, .word, true⟩]
  | .band dst src => [⟨.bitoff dst.word, .word, true⟩, ⟨.bitoff src.word, .word, true⟩]
  | .bxor dst src => [⟨.bitoff dst.word, .word, true⟩, ⟨.bitoff src.word, .word, true⟩]
  | .jb b _ => [⟨.bitoff b.word, .word, true⟩]
  | .jnb b _ => [⟨.bitoff b.word, .word, true⟩]
  | .jbc b _ => [⟨.bitoff b.word, .word, true⟩]
  | .jnbs b _ => [⟨.bitoff b.word, .word, true⟩]
  | .bclr b => [⟨.bitoff b.word, .word, true⟩]
  | .bset b => [⟨.bitoff b.word, .word, true⟩]
  | .calla _ _ => []
  | .jmpa _ _ => []
  | .calli _ n => [⟨.rw n, .word, true⟩]
  | .jmpi _ n => [⟨.rw n, .word, true⟩]
  | .callr _ => []
  | .jmpr _ _ => []
  | .calls _ _ => []
  | .jmps _ _ => []
  | .pcall r _ => [⟨.reg r, .word, true⟩]
  | .ret => []
  | .rets => []
  | .reti => []
  | .retp r => [⟨.reg r, .word, false⟩]
  | .trap _ => []
  | .cmpi1RwData4 n _ => [⟨.rw n, .word, true⟩]
  | .cmpi1RwData16 n _ => [⟨.rw n, .word, true⟩]
  | .cmpi1RwMem n a => [⟨.rw n, .word, true⟩, ⟨.mem a, .word, true⟩]
  | .cmpi2RwData4 n _ => [⟨.rw n, .word, true⟩]
  | .cmpi2RwData16 n _ => [⟨.rw n, .word, true⟩]
  | .cmpi2RwMem n a => [⟨.rw n, .word, true⟩, ⟨.mem a, .word, true⟩]
  | .cmpd1RwData4 n _ => [⟨.rw n, .word, true⟩]
  | .cmpd1RwData16 n _ => [⟨.rw n, .word, true⟩]
  | .cmpd1RwMem n a => [⟨.rw n, .word, true⟩, ⟨.mem a, .word, true⟩]
  | .cmpd2RwData4 n _ => [⟨.rw n, .word, true⟩]
  | .cmpd2RwData16 n _ => [⟨.rw n, .word, true⟩]
  | .cmpd2RwMem n a => [⟨.rw n, .word, true⟩, ⟨.mem a, .word, true⟩]
  | .neg n => [⟨.rw n, .word, true⟩]
  | .cpl n => [⟨.rw n, .word, true⟩]
  | .negb n => [⟨.rb n, .byte, true⟩]
  | .cplb n => [⟨.rb n, .byte, true⟩]
  | .diswdt => []
  | .einit => []
  | .idle => []
  | .pwrdn => []
  | .srst => []
  | .srvwdt => []
  | .nop => []
  | .mulRwRw n m => [⟨.rw n, .word, true⟩, ⟨.rw m, .word, true⟩]
  | .muluRwRw n m => [⟨.rw n, .word, true⟩, ⟨.rw m, .word, true⟩]
  | .div n => [⟨.rw n, .word, true⟩]
  | .divu n => [⟨.rw n, .word, true⟩]
  | .divl n => [⟨.rw n, .word, true⟩]
  | .divlu n => [⟨.rw n, .word, true⟩]
  | .movRwRw n m => [⟨.rw n, .word, false⟩, ⟨.rw m, .word, true⟩]
  | .movRwData4 n _ => [⟨.rw n, .word, false⟩]
  | .movRegData16 r _ => [⟨.reg r, .word, false⟩]
  | .movRwInd n m => [⟨.rw n, .word, false⟩, ⟨.ind m, .word, true⟩]
  | .movRwIndInc n m => [⟨.rw n, .word, false⟩, ⟨.indInc m, .word, true⟩]
  | .movIndRw m n => [⟨.ind m, .word, false⟩, ⟨.rw n, .word, true⟩]
  | .movIndDecRw m n => [⟨.indDec m, .word, false⟩, ⟨.rw n, .word, true⟩]
  | .movIndInd n m => [⟨.ind n, .word, false⟩, ⟨.ind m, .word, true⟩]
  | .movIndIncInd n m => [⟨.indInc n, .word, false⟩, ⟨.ind m, .word, true⟩]
  | .movIndIndInc n m => [⟨.ind n, .word, false⟩, ⟨.indInc m, .word, true⟩]
  | .movRwIndDisp n m d => [⟨.rw n, .word, false⟩, ⟨.indDisp m d, .word, true⟩]
  | .movIndDispRw m d n => [⟨.indDisp m d, .word, false⟩, ⟨.rw n, .word, true⟩]
  | .movIndMem n a => [⟨.ind n, .word, false⟩, ⟨.mem a, .word, true⟩]
  | .movMemInd a n => [⟨.mem a, .word, false⟩, ⟨.ind n, .word, true⟩]
  | .movRegMem r a => [⟨.reg r, .word, false⟩, ⟨.mem a, .word, true⟩]
  | .movMemReg a r => [⟨.mem a, .word, false⟩, ⟨.reg r, .word, true⟩]
  | .movbRbRb n m => [⟨.rb n, .byte, false⟩, ⟨.rb m, .byte, true⟩]
  | .movbRbData4 n _ => [⟨.rb n, .byte, false⟩]
  | .movbRegData8 r _ => [⟨.reg r, .byte, false⟩]
  | .movbRbInd n m => [⟨.rb n, .byte, false⟩, ⟨.ind m, .byte, true⟩]
  | .movbRbIndInc n m => [⟨.rb n, .byte, false⟩, ⟨.indInc m, .byte, true⟩]
  | .movbIndRb m n => [⟨.ind m, .byte, false⟩, ⟨.rb n, .byte, true⟩]
  | .movbIndDecRb m n => [⟨.indDec m, .byte, false⟩, ⟨.rb n, .byte, true⟩]
  | .movbIndInd n m => [⟨.ind n, .byte, false⟩, ⟨.ind m, .byte, true⟩]
  | .movbIndIncInd n m => [⟨.indInc n, .byte, false⟩, ⟨.ind m, .byte, true⟩]
  | .movbIndIndInc n m => [⟨.ind n, .byte, false⟩, ⟨.indInc m, .byte, true⟩]
  | .movbRbIndDisp n m d => [⟨.rb n, .byte, false⟩, ⟨.indDisp m d, .byte, true⟩]
  | .movbIndDispRb m d n => [⟨.indDisp m d, .byte, false⟩, ⟨.rb n, .byte, true⟩]
  | .movbIndMem n a => [⟨.ind n, .byte, false⟩, ⟨.mem a, .byte, true⟩]
  | .movbMemInd a n => [⟨.mem a, .byte, false⟩, ⟨.ind n, .byte, true⟩]
  | .movbRegMem r a => [⟨.reg r, .byte, false⟩, ⟨.mem a, .byte, true⟩]
  | .movbMemReg a r => [⟨.mem a, .byte, false⟩, ⟨.reg r, .byte, true⟩]
  | .movbsRwRb n m => [⟨.rw n, .word, false⟩, ⟨.rb m, .byte, true⟩]
  | .movbsRegMem r a => [⟨.reg r, .word, false⟩, ⟨.mem a, .byte, true⟩]
  | .movbsMemReg a r => [⟨.mem a, .word, false⟩, ⟨.reg r, .byte, true⟩]
  | .movbszRwRb n m => [⟨.rw n, .word, false⟩, ⟨.rb m, .byte, true⟩]
  | .movbszRegMem r a => [⟨.reg r, .word, false⟩, ⟨.mem a, .byte, true⟩]
  | .movbszMemReg a r => [⟨.mem a, .word, false⟩, ⟨.reg r, .byte, true⟩]
  | .pop r => [⟨.reg r, .word, false⟩]
  | .push r => [⟨.reg r, .word, true⟩]
  | .scxtRegData16 r _ => [⟨.reg r, .word, true⟩]
  | .scxtRegMem r a => [⟨.reg r, .word, true⟩, ⟨.mem a, .word, true⟩]

/-- The instruction uses the stack implicitly (R460, row SP). -/
def usesStack (i : Instr) : Bool :=
  i.mnemonic ∈ [.push, .pop, .scxt, .pcall, .retp, .calla, .calli, .callr, .calls, .ret, .rets, .reti, .trap]

/-- The condition code the instruction tests, if any. -/
def conditionOf : Instr → Option Cond
  | .calla cc _ => some cc
  | .jmpa cc _ => some cc
  | .calli cc _ => some cc
  | .jmpi cc _ => some cc
  | .jmpr cc _ => some cc
  | _ => none

/-- The instruction reads a flag (R460, row PSW): a `Cond`, or the carry of ADDC, ADDCB, SUBC, SUBCB. The condition
cc_UC reads no flag (log entry 46). -/
def readsFlag (i : Instr) : Bool :=
  i.mnemonic ∈ [.addc, .addcb, .subc, .subcb] ||
    match conditionOf i with
    | some cc => decide (cc ≠ .uc)
    | none => false

/-- The instruction uses a core register in the way R460 lists. -/
def usesCore (r : CoreReg) (i : Instr) (s : State) : Bool :=
  match r with
  | .cp => (operandsOf i).any fun o => o.loc.namesGpr
  | .sp => usesStack i
  | .stkov => usesStack i
  | .stkun => usesStack i
  | .dpp _ => s.seq.page.isNone && s.seq.seg.isNone && (operandsOf i).any fun o => o.loc.inDataSpace
  | .psw => readsFlag i || decide (i.mnemonic = .trap) || (operandsOf i).any fun o => o.readsPsw s
  | .syscon => i.mnemonic ∈ [.trap, .reti] || (operandsOf i).any fun o => o.loc.inDataSpace
  | _ => false

/-- The core register the instruction before wrote explicitly and this one uses (R460). Log entry 13. -/
def hazard (i : Instr) (s : State) : Option CoreReg :=
  match s.cfg.hazards with
  | .refuse => s.lastWrites.find? fun r => usesCore r i s
  | .sequential => none

end Sys2Proof.Machine
end

