-- ==== Sys2Proof/Machine/RegisterFile.lean ====
section
/-! DEFINITION. `GPR_MODEL = abstract_file` (10_state.md R22, D2): the general registers are a file of their own, and "a
model that uses it must refuse" a program that writes CP or addresses bank memory. The file is kept in the bytes at CP
(`inFile`), which nothing but a register operand reaches; what the map has there does not matter. Log entry 53. -/

namespace Sys2Proof.Machine

/-- The location is a general register itself. -/
def Loc.isRegister : Loc → Bool
  | .rw _ => true
  | .rb _ => true
  | .reg r => decide (r.extractLsb' 4 4 = 0xF#4)
  | .bitoff q => decide (q.extractLsb' 4 4 = 0xF#4)
  | .mem _ => false
  | .ind _ => false
  | .indInc _ => false
  | .indDec _ => false
  | .indDisp _ _ => false

/-- The address of an operand that is no general register. -/
def Operand.memoryAddr (o : Operand) (s : State) : Option PhysAddr :=
  if o.loc.isRegister then none
  else match o.loc.addr o.width s with
    | .ok (pa, _) => some pa
    | .error _ => none

/-- How many WORDs the instruction pushes (20_memory.md R75). -/
def pushCount (i : Instr) (s : State) : Nat :=
  match i.mnemonic with
  | .push => 1
  | .scxt => 1
  | .callr => 1
  | .calls => 2
  | .pcall => 2
  | .calla => if (conditionOf i).any (condHolds s.flags) then 1 else 0
  | .calli => if (conditionOf i).any (condHolds s.flags) then 1 else 0
  | .trap => if s.sgtdis then 2 else 3
  | _ => 0

/-- How many WORDs the instruction pops (R75). -/
def popCount (i : Instr) (s : State) : Nat :=
  match i.mnemonic with
  | .pop => 1
  | .ret => 1
  | .rets => 2
  | .retp => 2
  | .reti => if s.sgtdis then 2 else 3
  | _ => 0

/-- The addresses of the `n` WORDs below SP. -/
def belowSp (n : Nat) (s : State) : List PhysAddr :=
  (List.range n).map fun k => stackAddr (s.sp - BitVec.ofNat 16 (2 * k + 2))

/-- The addresses of the `n` WORDs from SP up. -/
def aboveSp (n : Nat) (s : State) : List PhysAddr :=
  (List.range n).map fun k => stackAddr (s.sp + BitVec.ofNat 16 (2 * k))

/-- The data an instruction reaches in memory: its memory operands and the stack. (Its own bytes: `fetchByte`.) -/
def reached (i : Instr) (s : State) : List PhysAddr :=
  (operandsOf i).filterMap (fun o => o.memoryAddr s) ++ belowSp (pushCount i s) s ++ aboveSp (popCount i s) s

/-- With `abstract_file` a step is refused if it addresses bank memory (R22, D2: "must refuse programs that write CP or
touch bank memory"), or if CP has been written: it has no longer its reset value. -/
def fileStop (touched : List PhysAddr) (s : State) : Option Refusal :=
  match s.cfg.gprModel with
  | .memoryMapped => none
  | .abstractFile =>
    if s.cp = fileBase s.cfg then ((touched.filter fun pa => inFile s.cfg pa).head?).map .registerFile
    else some .cpWrite

/-- With `abstract_file` an outcome that has written CP is refused. -/
def refuseCpWrite (s : State) (r : StepOutcome) : StepOutcome :=
  match r with
  | .next t => if s.cfg.gprModel = .abstractFile ∧ (.cp ∈ t.lastWrites ∨ t.cp ≠ s.cp) then .refused .cpWrite else r
  | .fault _ => r
  | .refused _ => r

/-- An event taken under the setting of `GPR_MODEL`: with `abstract_file` it is refused where its frame lies on the bank. -/
def guardEntry (s : State) (r : StepOutcome) : StepOutcome :=
  match r with
  | .next t =>
    match fileStop (belowSp ((s.sp - t.sp).toNat / 2) s) s with
    | some e => .refused e
    | none => if s.cfg.gprModel = .abstractFile ∧ t.cp ≠ s.cp then .refused .cpWrite else r
  | .fault _ => r
  | .refused _ => r

/-- An instruction run under the setting of `GPR_MODEL` (R22). -/
def runInstr (i : Instr) (s : State) : StepOutcome :=
  match fileStop (reached i s) s with
  | some r => .refused r
  | none => refuseCpWrite s (exec i { s with lastWrites := [] })

end Sys2Proof.Machine
end

