-- ==== Sys2Proof/Machine/Run.lean ====
section
/-! DEFINITION. One step of the CPU from its parts (00_scope.md R13). -/

namespace Sys2Proof.Machine

/-- The next state of an outcome changed; a fault and a refusal as they are. -/
def mapNext (f : State → State) (r : StepOutcome) : StepOutcome :=
  match r with
  | .next s => .next (f s)
  | .fault e => .fault e
  | .refused e => .refused e

/-- An instruction that starts a sequence; it is not counted itself (42_atomic_ext.md R220 items 1 and 4). -/
def startsSequence (i : Instr) : Bool := i.mnemonic ∈ [.atomic, .extr, .exts, .extp, .extsr, .extpr]

/-- The count down after an executed instruction; at 0 the overrides go (R220 item 4). -/
def countDown (q : Seq) : Seq :=
  match q.count with
  | 0 => q
  | 1 => {}
  | n + 2 => { q with count := n + 1 }

/-- The end of a step that ran no instruction: the count of the watchdog is no longer known (60_exceptions.md R424),
and with a rate it moves (R423). A later interrupt does not follow a PSW write directly any more (70_reset_and_hazards.md
R460). -/
def endStep (s : State) : State := ({ s with wdtExact := false, pswBefore := s.psw } : State).tick

/-- The end of the step of an executed instruction (R13 item 7; R423, R424). After SRVWDT the count is known. The state
after SRST is the reset state as it is. With a rate the step of PWRDN itself still moves the watchdog, as the last one
before the stop: R423 has it after each step, R424 and 45_system.md R315 stop it in power-down, and which holds for that
step is open. DESIGN CHOICE, log entry 31. -/
def afterInstr (i : Instr) (s : State) : State :=
  if i.mnemonic = .srst then s
  else
    ({ s with
        seq := if startsSequence i then s.seq else countDown s.seq
        wdtExact := decide (i.mnemonic = .srvwdt) } : State).tick

/-- Items 3 to 7 of R13: fetch, decode, the hazard rule (70_reset_and_hazards.md R460), the instruction. What it writes
explicitly is noted afresh. A fetch that only raises a class B event counts as the instruction that follows the write
of R460, which says nothing of it: the note is dropped. DESIGN CHOICE, log entry 13. -/
def runNext (s : State) : StepOutcome :=
  match fetchInstr s with
  | .error (.refuse r) => .refused r
  | .error (.trap e) => mapNext endStep (raiseClassB e { s with lastWrites := [] })
  | .ok i =>
    match hazard i s with
    | some r => .refused (.pipelineHazard r)
    | none => mapNext (afterInstr i) (runInstr i s)

/-- Items 2 to 7 of R13: an event that is taken is the whole step. -/
def runOrTake (s : State) : StepOutcome :=
  match examine s with
  | (u, some r) => mapNext endStep (guardEntry u r)
  | (t, none) => runNext t

/-- Item 1 of R13 for a CPU that is not powered down: a watchdog reset (70_reset_and_hazards.md R450), the idle state
(45_system.md R313), else the rest. An idle step changes nothing but the watchdog's count. Log entry 39. -/
def stepPowered (s : State) : StepOutcome :=
  if watchdogResets s then .next (s.resetBy .watchdog)
  else if s.runState = .idle then
    if wakes s then runOrTake { s with runState := .running } else .next s.tick
  else runOrTake s

end Sys2Proof.Machine
end

