-- ==== Sys2Proof/Machine/Step.lean ====
section
/-! DEFINITION. The step of the machine, and the placing of an instruction where it is fetched. -/

namespace Sys2Proof.Machine

/-- One step (00_scope.md R13). An external reset comes before everything (70_reset_and_hazards.md R450) and is the only
way out of power-down (45_system.md R315). -/
def step (s : State) : Host.Outcome State Fault Refusal :=
  if s.pending.reset then .next (s.resetBy .external)
  else if s.runState = .powerDown then .next s
  else stepPowered s

/-- The state with an instruction of the opcode table stored at (CSP, IP) (log entries 38 and 42). -/
def State.withFetchWord (s : State) (nbits w : Nat) : State := placeBytes 0 (tableBytes nbits w) s

end Sys2Proof.Machine
end

