-- ==== Sys2Proof/Safety.lean ====
section
/-! DEFINITION. The terms of the claims: the invariant of the machine, the operands of an instruction as they stand when
the register bank lies in RAM, what an instruction may change, and the forms of each group of instructions. -/

namespace Sys2Proof.Machine

/-! ## The invariant -/

/-- What holds of every state the machine reaches. -/
def MachineInv (s : State) : Prop :=
  -- Memory is canonical and lies in the address space (20_memory.md R60).
  s.mem.wf = true ∧ (∀ c ∈ s.mem, c.1 < 2 ^ 24) ∧
  -- The hard-wired zero bits of the core registers (10_state.md R33; 20_memory.md R67).
  s.cp.getLsbD 0 = false ∧ s.sp.getLsbD 0 = false ∧ s.stkov.getLsbD 0 = false ∧ s.stkun.getLsbD 0 = false ∧
  s.dpp0 < 0x0400 ∧ s.dpp1 < 0x0400 ∧ s.dpp2 < 0x0400 ∧ s.dpp3 < 0x0400 ∧
  -- With `abstract_file` CP keeps its reset value (10_state.md R22).
  (s.cfg.gprModel = .abstractFile → s.cp = fileBase s.cfg) ∧
  -- PSW has a layout it can have; its reserved bits and MULIP are 0 (10_state.md R27; 46_mul_div.md R337).
  s.cfg.psw.wf = true ∧ s.psw &&& s.cfg.psw.reserved = 0 ∧ s.psw.getLsbD s.cfg.psw.mulip.toNat = false ∧
  -- CSP holds a segment number of the device (10_state.md R23).
  maskSeg s.cfg.device s.csp = s.csp ∧
  -- The sequence state (10_state.md R38; 42_atomic_ext.md R220).
  s.seq.count ≤ 4 ∧ (s.seq.count = 0 → s.seq = {}) ∧ (s.seq.page = none ∨ s.seq.seg = none) ∧
  -- No sequence runs in the idle and power-down states (42_atomic_ext.md R227 b).
  (s.runState ≠ .running → s.seq.count = 0) ∧
  -- EINIT has closed the watchdog window (60_exceptions.md R422).
  (s.initDone = true → s.wdtOpen = false)

/-! ## Operands with the register bank in RAM -/

/-- The sixteen WORDs at CP are RAM (70_reset_and_hazards.md R452 item 5) and do not run over the end of segment 0. -/
def BankInRam (s : State) : Prop :=
  s.cp.getLsbD 0 = false ∧ s.cp.toNat + 31 < 65536 ∧
  ∀ k, k < 32 → classify s.cfg (BitVec.ofNat 24 (s.cp.toNat + k)) = .ram

/-- `Rw[n]` of a bank in RAM (10_state.md R20, R22). -/
def gprWord (n : BitVec 4) (s : State) : Word := s.mem.getWord (gprAddr s n).toNat

/-- `Rb[k]` of a bank in RAM (10_state.md R21, R22). -/
def gprByte (k : BitVec 4) (s : State) : Byte := s.mem.get (gprByteAddr s k).toNat

/-- `Rw[n] <- v` in a bank in RAM. -/
def State.setGpr (s : State) (n : BitVec 4) (v : Word) : State := s.storeWord (gprAddr s n).toNat v

/-- The physical address of an operand (20_memory.md R70 to R74). -/
def effAddr (l : Loc) (w : Width) (s : State) : PhysAddr :=
  match l with
  | .rw n => gprAddr s n
  | .rb k => gprByteAddr s k
  | .reg r => regAddr r w s
  | .bitoff q => bitWordAddr q s
  | .mem a => dataAddr a s
  | .ind n => dataAddr (gprWord n s) s
  | .indInc n => dataAddr (gprWord n s) s
  | .indDec n => dataAddr (gprWord n s - w.step) s
  | .indDisp n d => dataAddr (gprWord n s + d) s

/-- The post-increment of `[Rw_n+]` (R73). -/
def incremented (l : Loc) (w : Width) (s : State) : State :=
  match l with
  | .indInc n => s.setGpr n (gprWord n s + w.step)
  | _ => s

/-- The pre-decrement of `[-Rw_n]` (R73). -/
def decremented (l : Loc) (w : Width) (s : State) : State :=
  match l with
  | .indDec n => s.setGpr n (gprWord n s - w.step)
  | _ => s

/-- Why a source operand cannot be read, if it cannot. -/
def sourceStop {k : Nat} (w : Width) (src : Src k) (s : State) : Option Stop :=
  match src with
  | .imm _ => none
  | .loc l => accessStop w (effAddr l w s) s.cfg

/-- A WORD source operand, and the state after its read and its post-increment. -/
def sourceW (src : Src 16) (s : State) : Word × State :=
  match src with
  | .imm v => (v, s)
  | .loc l => ((loadedW (effAddr l .word s) s).1, incremented l .word (loadedW (effAddr l .word s) s).2)

/-- A BYTE source operand, and the state after its read and its post-increment. -/
def sourceB (src : Src 8) (s : State) : Byte × State :=
  match src with
  | .imm v => (v, s)
  | .loc l => ((loadedB (effAddr l .byte s) s).1, incremented l .byte (loadedB (effAddr l .byte s) s).2)

/-- A WORD destination written, and noted for the hazard rule. -/
def putW (pa : PhysAddr) (v : Word) (s : State) : State := (storedW pa v s).noteWrite pa s

/-- A BYTE destination written, and noted for the hazard rule. -/
def putB (pa : PhysAddr) (v : Byte) (s : State) : State := (storedB pa v s).noteWrite pa s

/-- The state after `Push(v)` (20_memory.md R75), where the push can be made. -/
def pushed (v : Word) (s : State) : State :=
  (storedW (stackAddr (s.sp - 2)) v { s with sp := s.sp - 2 }).checkOverflow

/-- Why `Push(v)` cannot be made, if it cannot. -/
def pushStop (v : Word) (s : State) : Option Stop := writeStop .word (stackAddr (s.sp - 2)) v s

/-- The WORD on top of the stack, and the state after `Pop()` (R75), where the pop can be made. -/
def popped (s : State) : Word × State :=
  let x := loadedW (stackAddr s.sp) s
  (x.1, ({ x.2 with sp := x.2.sp + 2 } : State).checkUnderflow)

/-- Why `Pop()` cannot be made, if it cannot. -/
def popStop (s : State) : Option Stop := accessStop .word (stackAddr s.sp) s.cfg

/-- The `2 * n` bytes below SP, and the registers' bank, are RAM and do not wrap: `n` WORDs can be pushed. -/
def StackRoom (n : Nat) (s : State) : Prop :=
  s.sp.getLsbD 0 = false ∧ 2 * n ≤ s.sp.toNat ∧
  ∀ k, k < 2 * n → classify s.cfg (BitVec.ofNat 24 (s.sp.toNat - 2 * n + k)) = .ram

/-- A trap or interrupt can be entered: its two or three WORDs can be pushed and, with `abstract_file`, do not lie on the
bank, CP having kept its reset value (60_exceptions.md R401; 10_state.md R22). -/
def EntryRoom (s : State) : Prop :=
  StackRoom (if s.sgtdis then 2 else 3) s ∧ fileStop (belowSp (if s.sgtdis then 2 else 3) s) s = none

/-- The `2 * n` bytes from SP up are RAM and do not wrap: `n` WORDs can be popped. -/
def StackHolds (n : Nat) (s : State) : Prop :=
  s.sp.getLsbD 0 = false ∧ s.sp.toNat + 2 * n < 65536 ∧
  ∀ k, k < 2 * n → classify s.cfg (BitVec.ofNat 24 (s.sp.toNat + k)) = .ram

/-- The stack WORD `k` places above SP. -/
def stackWord (k : Nat) (s : State) : Word := s.mem.getWord (s.sp.toNat + 2 * k)

/-! ## What an instruction may change -/

/-- The byte addresses a write of the width at `pa` may change: a BYTE written into the SFR or ESFR area changes its
register's two bytes (20_memory.md R67). -/
def footprint (c : Config) (w : Width) (pa : PhysAddr) (a : Nat) : Prop :=
  match w with
  | .word => a = pa.toNat ∨ a = pa.toNat + 1
  | .byte =>
    a = pa.toNat ∨
      ((inSfrArea c pa.toNat || inEsfrArea c pa.toNat) = true ∧ (a = pa.toNat - pa.toNat % 2 ∨ a = pa.toNat - pa.toNat % 2 + 1))

/-- `target` names the core register `r`. -/
def names (c : Config) (target : Option PhysAddr) (r : CoreReg) : Prop := ∃ pa, target = some pa ∧ classify c pa = .core r

/-- From `s` to `t` an instruction has written at most: IP; the flags; the register or the bytes at `target`; the pointer
registers `pointers`; MDC.MDRIU, which a read of MDL clears (10_state.md R30); and the model's own bookkeeping. -/
structure OnlyWrites (w : Width) (target : Option PhysAddr) (pointers : List (BitVec 4)) (s t : State) : Prop where
  cfg : t.cfg = s.cfg
  csp : t.csp = s.csp
  cp : t.cp = s.cp ∨ names s.cfg target .cp
  sp : t.sp = s.sp ∨ names s.cfg target .sp
  stkov : t.stkov = s.stkov ∨ names s.cfg target .stkov
  stkun : t.stkun = s.stkun ∨ names s.cfg target .stkun
  psw : (∃ f, t.psw = withFlags s.cfg.psw s.psw f) ∨ names s.cfg target .psw
  mdh : t.mdh = s.mdh ∨ names s.cfg target .mdh
  mdl : t.mdl = s.mdl ∨ names s.cfg target .mdl
  mdc : t.mdc &&& 0xFFEF = s.mdc &&& 0xFFEF ∨ names s.cfg target .mdc
  dpp : ∀ k, t.dpp k = s.dpp k ∨ names s.cfg target (.dpp k)
  syscon : t.syscon = s.syscon ∨ names s.cfg target .syscon
  tfr : t.tfr = s.tfr ∨ names s.cfg target .tfr
  wdtcon : t.wdtcon = s.wdtcon ∨ names s.cfg target .wdtcon
  wdt : t.wdt = s.wdt
  wdtEnabled : t.wdtEnabled = s.wdtEnabled
  wdtOpen : t.wdtOpen = s.wdtOpen
  initDone : t.initDone = s.initDone
  runState : t.runState = s.runState
  nmiPin : t.nmiPin = s.nmiPin
  seq : t.seq = s.seq
  pending : t.pending = s.pending
  frames : t.frames = s.frames
  mem : ∀ a, (∀ pa, target = some pa → ¬ footprint s.cfg w pa a) →
    (∀ n ∈ pointers, ¬ footprint s.cfg .word (gprAddr s n) a) → t.mem.get a = s.mem.get a

/-- The pointer register a location moves (20_memory.md R73). -/
def Loc.pointer (l : Loc) : List (BitVec 4) :=
  match l with
  | .indInc n => [n]
  | .indDec n => [n]
  | _ => []

/-- The pointer register a source operand moves. -/
def Src.pointer {k : Nat} (src : Src k) : List (BitVec 4) :=
  match src with
  | .imm _ => []
  | .loc l => l.pointer

/-- The instruction was undone by a class B event, which is now requested (60_exceptions.md R408). -/
def trapped (s t : State) : Prop := ∃ e : ClassB, t = s.requestClassB e

/-! ## Events -/

/-- A trap or interrupt has been entered (60_exceptions.md R401) from `s`, giving `u`: PSW, CSP with segmentation
enabled, and `ret` lie on the stack, PSW is `psw`, the entry is noted with SGTDIS as it was (R410), and nothing else but
the stack-limit request has changed. -/
structure Entered (t : BitVec 7) (ret psw : Word) (s u : State) : Prop where
  ip : u.ip = 4 * t.setWidth 16
  csp : u.csp = if s.sgtdis then s.csp else 0
  sp : u.sp = s.sp - (if s.sgtdis then 4 else 6)
  newPsw : u.psw = psw
  savedPsw : u.mem.getWord (s.sp.toNat - 2) = s.psw
  savedCsp : s.sgtdis = false → u.mem.getWord (s.sp.toNat - 4) = s.csp
  savedIp : u.mem.getWord u.sp.toNat = ret
  mem : ∀ a, (a < u.sp.toNat ∨ s.sp.toNat ≤ a) → u.mem.get a = s.mem.get a
  overflow : u.pending = { s.pending with stackOverflow := s.pending.stackOverflow || decide (u.sp < s.stkov) }
  tfr : u.tfr = if u.sp < s.stkov ∧ s.cfg.trapEntry = .modelled then
    s.tfr ||| s.cfg.trapTable.stackOverflow.flag else s.tfr
  frames : u.frames = (u.sp, s.sgtdis) :: s.frames.filter fun f => decide (f.1 ≠ u.sp)
  rest : u = { s with
    ip := u.ip, csp := u.csp, sp := u.sp, psw := u.psw, mem := u.mem, changed := u.changed, pending := u.pending,
    tfr := u.tfr, frames := u.frames }

/-- No reset and no event is due: the step fetches and runs an instruction (00_scope.md R13; 60_exceptions.md R405). -/
def Quiet (s : State) : Prop :=
  s.pending.reset = false ∧ s.runState = .running ∧ watchdogResets s = false ∧ dueClassB s = none ∧
  limitFault s = none ∧
  (s.seq.count = 0 →
    firstClassA s.pending = none ∧ s.pending.pec = [] ∧
    (s.pending.irqs = [] ∨
      ((∀ r ∈ s.pending.irqs, r.acceptable s.cfg.psw s.psw = false) ∧ (s.cfg.hazards = .sequential ∨ .psw ∉ s.lastWrites))))

/-- The CPU is running and neither a reset nor a class B event is due. -/
def Examining (s : State) : Prop :=
  s.pending.reset = false ∧ s.runState = .running ∧ watchdogResets s = false ∧ dueClassB s = none ∧ limitFault s = none

/-! ## Encodings -/

/-- The forms whose byte b3 has no meaning (30_encoding.md R111). -/
def hasUnusedByte : Instr → Bool
  | .addbRegData8 _ _ => true
  | .addcbRegData8 _ _ => true
  | .subbRegData8 _ _ => true
  | .subcbRegData8 _ _ => true
  | .cmpbRegData8 _ _ => true
  | .xorbRegData8 _ _ => true
  | .andbRegData8 _ _ => true
  | .orbRegData8 _ _ => true
  | .movbRegData8 _ _ => true
  | _ => false

/-- The unassigned values of b0 (30_encoding.md R118 item 1). -/
def unassignedOpcodes : List Byte :=
  [0x3B, 0x44, 0x45, 0x83, 0x85, 0x8B, 0x8C, 0x93, 0x95, 0xA3, 0xB3, 0xC1, 0xC3, 0xC7, 0xD3, 0xE3, 0xE5, 0xF5, 0xF8,
    0xF9]

/-! ## The forms of an instruction -/

/-- The WORD forms of ADD, ADDC, SUB, SUBC, CMP, AND, OR, XOR: the operation, op1, op2 (40_arith_logic.md R140). -/
def aluWordForm : Instr → Option (AluOp × Loc × Src 16)
  | .addRwRw n m => some (.add, .rw n, .loc (.rw m))
  | .addRwInd n i => some (.add, .rw n, .loc (.ind (i.setWidth 4)))
  | .addRwIndInc n i => some (.add, .rw n, .loc (.indInc (i.setWidth 4)))
  | .addRwData3 n d => some (.add, .rw n, .imm (d.setWidth 16))
  | .addRegData16 r d => some (.add, .reg r, .imm d)
  | .addRegMem r a => some (.add, .reg r, .loc (.mem a))
  | .addMemReg a r => some (.add, .mem a, .loc (.reg r))
  | .addcRwRw n m => some (.addc, .rw n, .loc (.rw m))
  | .addcRwInd n i => some (.addc, .rw n, .loc (.ind (i.setWidth 4)))
  | .addcRwIndInc n i => some (.addc, .rw n, .loc (.indInc (i.setWidth 4)))
  | .addcRwData3 n d => some (.addc, .rw n, .imm (d.setWidth 16))
  | .addcRegData16 r d => some (.addc, .reg r, .imm d)
  | .addcRegMem r a => some (.addc, .reg r, .loc (.mem a))
  | .addcMemReg a r => some (.addc, .mem a, .loc (.reg r))
  | .subRwRw n m => some (.sub, .rw n, .loc (.rw m))
  | .subRwInd n i => some (.sub, .rw n, .loc (.ind (i.setWidth 4)))
  | .subRwIndInc n i => some (.sub, .rw n, .loc (.indInc (i.setWidth 4)))
  | .subRwData3 n d => some (.sub, .rw n, .imm (d.setWidth 16))
  | .subRegData16 r d => some (.sub, .reg r, .imm d)
  | .subRegMem r a => some (.sub, .reg r, .loc (.mem a))
  | .subMemReg a r => some (.sub, .mem a, .loc (.reg r))
  | .subcRwRw n m => some (.subc, .rw n, .loc (.rw m))
  | .subcRwInd n i => some (.subc, .rw n, .loc (.ind (i.setWidth 4)))
  | .subcRwIndInc n i => some (.subc, .rw n, .loc (.indInc (i.setWidth 4)))
  | .subcRwData3 n d => some (.subc, .rw n, .imm (d.setWidth 16))
  | .subcRegData16 r d => some (.subc, .reg r, .imm d)
  | .subcRegMem r a => some (.subc, .reg r, .loc (.mem a))
  | .subcMemReg a r => some (.subc, .mem a, .loc (.reg r))
  | .cmpRwRw n m => some (.cmp, .rw n, .loc (.rw m))
  | .cmpRwInd n i => some (.cmp, .rw n, .loc (.ind (i.setWidth 4)))
  | .cmpRwIndInc n i => some (.cmp, .rw n, .loc (.indInc (i.setWidth 4)))
  | .cmpRwData3 n d => some (.cmp, .rw n, .imm (d.setWidth 16))
  | .cmpRegData16 r d => some (.cmp, .reg r, .imm d)
  | .cmpRegMem r a => some (.cmp, .reg r, .loc (.mem a))
  | .xorRwRw n m => some (.xor, .rw n, .loc (.rw m))
  | .xorRwInd n i => some (.xor, .rw n, .loc (.ind (i.setWidth 4)))
  | .xorRwIndInc n i => some (.xor, .rw n, .loc (.indInc (i.setWidth 4)))
  | .xorRwData3 n d => some (.xor, .rw n, .imm (d.setWidth 16))
  | .xorRegData16 r d => some (.xor, .reg r, .imm d)
  | .xorRegMem r a => some (.xor, .reg r, .loc (.mem a))
  | .xorMemReg a r => some (.xor, .mem a, .loc (.reg r))
  | .andRwRw n m => some (.and, .rw n, .loc (.rw m))
  | .andRwInd n i => some (.and, .rw n, .loc (.ind (i.setWidth 4)))
  | .andRwIndInc n i => some (.and, .rw n, .loc (.indInc (i.setWidth 4)))
  | .andRwData3 n d => some (.and, .rw n, .imm (d.setWidth 16))
  | .andRegData16 r d => some (.and, .reg r, .imm d)
  | .andRegMem r a => some (.and, .reg r, .loc (.mem a))
  | .andMemReg a r => some (.and, .mem a, .loc (.reg r))
  | .orRwRw n m => some (.or, .rw n, .loc (.rw m))
  | .orRwInd n i => some (.or, .rw n, .loc (.ind (i.setWidth 4)))
  | .orRwIndInc n i => some (.or, .rw n, .loc (.indInc (i.setWidth 4)))
  | .orRwData3 n d => some (.or, .rw n, .imm (d.setWidth 16))
  | .orRegData16 r d => some (.or, .reg r, .imm d)
  | .orRegMem r a => some (.or, .reg r, .loc (.mem a))
  | .orMemReg a r => some (.or, .mem a, .loc (.reg r))
  | _ => none

/-- The BYTE forms of ADDB, ADDCB, SUBB, SUBCB, CMPB, ANDB, ORB, XORB: the operation, op1, op2 (40_arith_logic.md R141). -/
def aluByteForm : Instr → Option (AluOp × Loc × Src 8)
  | .addbRbRb n m => some (.add, .rb n, .loc (.rb m))
  | .addbRbInd n i => some (.add, .rb n, .loc (.ind (i.setWidth 4)))
  | .addbRbIndInc n i => some (.add, .rb n, .loc (.indInc (i.setWidth 4)))
  | .addbRbData3 n d => some (.add, .rb n, .imm (d.setWidth 8))
  | .addbRegData8 r d => some (.add, .reg r, .imm d)
  | .addbRegMem r a => some (.add, .reg r, .loc (.mem a))
  | .addbMemReg a r => some (.add, .mem a, .loc (.reg r))
  | .addcbRbRb n m => some (.addc, .rb n, .loc (.rb m))
  | .addcbRbInd n i => some (.addc, .rb n, .loc (.ind (i.setWidth 4)))
  | .addcbRbIndInc n i => some (.addc, .rb n, .loc (.indInc (i.setWidth 4)))
  | .addcbRbData3 n d => some (.addc, .rb n, .imm (d.setWidth 8))
  | .addcbRegData8 r d => some (.addc, .reg r, .imm d)
  | .addcbRegMem r a => some (.addc, .reg r, .loc (.mem a))
  | .addcbMemReg a r => some (.addc, .mem a, .loc (.reg r))
  | .subbRbRb n m => some (.sub, .rb n, .loc (.rb m))
  | .subbRbInd n i => some (.sub, .rb n, .loc (.ind (i.setWidth 4)))
  | .subbRbIndInc n i => some (.sub, .rb n, .loc (.indInc (i.setWidth 4)))
  | .subbRbData3 n d => some (.sub, .rb n, .imm (d.setWidth 8))
  | .subbRegData8 r d => some (.sub, .reg r, .imm d)
  | .subbRegMem r a => some (.sub, .reg r, .loc (.mem a))
  | .subbMemReg a r => some (.sub, .mem a, .loc (.reg r))
  | .subcbRbRb n m => some (.subc, .rb n, .loc (.rb m))
  | .subcbRbInd n i => some (.subc, .rb n, .loc (.ind (i.setWidth 4)))
  | .subcbRbIndInc n i => some (.subc, .rb n, .loc (.indInc (i.setWidth 4)))
  | .subcbRbData3 n d => some (.subc, .rb n, .imm (d.setWidth 8))
  | .subcbRegData8 r d => some (.subc, .reg r, .imm d)
  | .subcbRegMem r a => some (.subc, .reg r, .loc (.mem a))
  | .subcbMemReg a r => some (.subc, .mem a, .loc (.reg r))
  | .cmpbRbRb n m => some (.cmp, .rb n, .loc (.rb m))
  | .cmpbRbInd n i => some (.cmp, .rb n, .loc (.ind (i.setWidth 4)))
  | .cmpbRbIndInc n i => some (.cmp, .rb n, .loc (.indInc (i.setWidth 4)))
  | .cmpbRbData3 n d => some (.cmp, .rb n, .imm (d.setWidth 8))
  | .cmpbRegData8 r d => some (.cmp, .reg r, .imm d)
  | .cmpbRegMem r a => some (.cmp, .reg r, .loc (.mem a))
  | .xorbRbRb n m => some (.xor, .rb n, .loc (.rb m))
  | .xorbRbInd n i => some (.xor, .rb n, .loc (.ind (i.setWidth 4)))
  | .xorbRbIndInc n i => some (.xor, .rb n, .loc (.indInc (i.setWidth 4)))
  | .xorbRbData3 n d => some (.xor, .rb n, .imm (d.setWidth 8))
  | .xorbRegData8 r d => some (.xor, .reg r, .imm d)
  | .xorbRegMem r a => some (.xor, .reg r, .loc (.mem a))
  | .xorbMemReg a r => some (.xor, .mem a, .loc (.reg r))
  | .andbRbRb n m => some (.and, .rb n, .loc (.rb m))
  | .andbRbInd n i => some (.and, .rb n, .loc (.ind (i.setWidth 4)))
  | .andbRbIndInc n i => some (.and, .rb n, .loc (.indInc (i.setWidth 4)))
  | .andbRbData3 n d => some (.and, .rb n, .imm (d.setWidth 8))
  | .andbRegData8 r d => some (.and, .reg r, .imm d)
  | .andbRegMem r a => some (.and, .reg r, .loc (.mem a))
  | .andbMemReg a r => some (.and, .mem a, .loc (.reg r))
  | .orbRbRb n m => some (.or, .rb n, .loc (.rb m))
  | .orbRbInd n i => some (.or, .rb n, .loc (.ind (i.setWidth 4)))
  | .orbRbIndInc n i => some (.or, .rb n, .loc (.indInc (i.setWidth 4)))
  | .orbRbData3 n d => some (.or, .rb n, .imm (d.setWidth 8))
  | .orbRegData8 r d => some (.or, .reg r, .imm d)
  | .orbRegMem r a => some (.or, .reg r, .loc (.mem a))
  | .orbMemReg a r => some (.or, .mem a, .loc (.reg r))
  | _ => none

/-- CMPI1, CMPI2, CMPD1, CMPD2: what is added to op1, the register op1, op2 (40_arith_logic.md R153 to R156). -/
def compareForm : Instr → Option (Word × BitVec 4 × Src 16)
  | .cmpi1RwData4 n d => some (1, n, .imm (d.setWidth 16))
  | .cmpi1RwData16 n d => some (1, n, .imm d)
  | .cmpi1RwMem n a => some (1, n, .loc (.mem a))
  | .cmpi2RwData4 n d => some (2, n, .imm (d.setWidth 16))
  | .cmpi2RwData16 n d => some (2, n, .imm d)
  | .cmpi2RwMem n a => some (2, n, .loc (.mem a))
  | .cmpd1RwData4 n d => some (-1, n, .imm (d.setWidth 16))
  | .cmpd1RwData16 n d => some (-1, n, .imm d)
  | .cmpd1RwMem n a => some (-1, n, .loc (.mem a))
  | .cmpd2RwData4 n d => some (-2, n, .imm (d.setWidth 16))
  | .cmpd2RwData16 n d => some (-2, n, .imm d)
  | .cmpd2RwMem n a => some (-2, n, .loc (.mem a))
  | _ => none

/-- ROL, ROR, SHL, SHR, ASHR: the shift, op1, op2 (41_shift_rotate.md R200). -/
def shiftForm : Instr → Option (ShiftOp × BitVec 4 × Src 16)
  | .rolRwRw n m => some (.rol, n, .loc (.rw m))
  | .rolRwData4 n d => some (.rol, n, .imm (d.setWidth 16))
  | .rorRwRw n m => some (.ror, n, .loc (.rw m))
  | .rorRwData4 n d => some (.ror, n, .imm (d.setWidth 16))
  | .shlRwRw n m => some (.shl, n, .loc (.rw m))
  | .shlRwData4 n d => some (.shl, n, .imm (d.setWidth 16))
  | .shrRwRw n m => some (.shr, n, .loc (.rw m))
  | .shrRwData4 n d => some (.shr, n, .imm (d.setWidth 16))
  | .ashrRwRw n m => some (.ashr, n, .loc (.rw m))
  | .ashrRwData4 n d => some (.ashr, n, .imm (d.setWidth 16))
  | _ => none

/-- MOV: op1, op2 (47_data_move.md R351). -/
def moveWordForm : Instr → Option (Loc × Src 16)
  | .movRwRw n m => some (.rw n, .loc (.rw m))
  | .movRwData4 n d => some (.rw n, .imm (d.setWidth 16))
  | .movRegData16 r d => some (.reg r, .imm d)
  | .movRwInd n m => some (.rw n, .loc (.ind m))
  | .movRwIndInc n m => some (.rw n, .loc (.indInc m))
  | .movIndRw m n => some (.ind m, .loc (.rw n))
  | .movIndDecRw m n => some (.indDec m, .loc (.rw n))
  | .movIndInd n m => some (.ind n, .loc (.ind m))
  | .movIndIncInd n m => some (.indInc n, .loc (.ind m))
  | .movIndIndInc n m => some (.ind n, .loc (.indInc m))
  | .movRwIndDisp n m d => some (.rw n, .loc (.indDisp m d))
  | .movIndDispRw m d n => some (.indDisp m d, .loc (.rw n))
  | .movIndMem n a => some (.ind n, .loc (.mem a))
  | .movMemInd a n => some (.mem a, .loc (.ind n))
  | .movRegMem r a => some (.reg r, .loc (.mem a))
  | .movMemReg a r => some (.mem a, .loc (.reg r))
  | _ => none

/-- MOVB: op1, op2 (47_data_move.md R352). -/
def moveByteForm : Instr → Option (Loc × Src 8)
  | .movbRbRb n m => some (.rb n, .loc (.rb m))
  | .movbRbData4 n d => some (.rb n, .imm (d.setWidth 8))
  | .movbRegData8 r d => some (.reg r, .imm d)
  | .movbRbInd n m => some (.rb n, .loc (.ind m))
  | .movbRbIndInc n m => some (.rb n, .loc (.indInc m))
  | .movbIndRb m n => some (.ind m, .loc (.rb n))
  | .movbIndDecRb m n => some (.indDec m, .loc (.rb n))
  | .movbIndInd n m => some (.ind n, .loc (.ind m))
  | .movbIndIncInd n m => some (.indInc n, .loc (.ind m))
  | .movbIndIndInc n m => some (.ind n, .loc (.indInc m))
  | .movbRbIndDisp n m d => some (.rb n, .loc (.indDisp m d))
  | .movbIndDispRb m d n => some (.indDisp m d, .loc (.rb n))
  | .movbIndMem n a => some (.ind n, .loc (.mem a))
  | .movbMemInd a n => some (.mem a, .loc (.ind n))
  | .movbRegMem r a => some (.reg r, .loc (.mem a))
  | .movbMemReg a r => some (.mem a, .loc (.reg r))
  | _ => none

/-- MOVBS and MOVBSZ: the extension, op1, op2 (47_data_move.md R353, R354). -/
def extendForm : Instr → Option (Extension × Loc × Src 8)
  | .movbsRwRb n m => some (.sign, .rw n, .loc (.rb m))
  | .movbsRegMem r a => some (.sign, .reg r, .loc (.mem a))
  | .movbsMemReg a r => some (.sign, .mem a, .loc (.reg r))
  | .movbszRwRb n m => some (.zero, .rw n, .loc (.rb m))
  | .movbszRegMem r a => some (.zero, .reg r, .loc (.mem a))
  | .movbszMemReg a r => some (.zero, .mem a, .loc (.reg r))
  | _ => none

/-- A source operand that is a location. -/
def Src.locs {k : Nat} (src : Src k) : List Loc :=
  match src with
  | .imm _ => []
  | .loc l => [l]

/-- The locations an instruction reads as operands, each with its width, by its form: both operands of an arithmetic,
logic or compare form, the source of a move, the WORDs of a bit instruction (40_arith_logic.md, 41_shift_rotate.md,
43_bit.md, 47_data_move.md). -/
def readLocs (i : Instr) : List (Loc × Width) :=
  match aluWordForm i, aluByteForm i, compareForm i, shiftForm i, moveWordForm i, moveByteForm i, extendForm i with
  | some (_, dst, src), _, _, _, _, _, _ => (dst, .word) :: src.locs.map (·, .word)
  | _, some (_, dst, src), _, _, _, _, _ => (dst, .byte) :: src.locs.map (·, .byte)
  | _, _, some (_, n, src), _, _, _, _ => (.rw n, .word) :: src.locs.map (·, .word)
  | _, _, _, some (_, n, src), _, _, _ => (.rw n, .word) :: src.locs.map (·, .word)
  | _, _, _, _, some (_, src), _, _ => src.locs.map (·, .word)
  | _, _, _, _, _, some (_, src), _ => src.locs.map (·, .byte)
  | _, _, _, _, _, _, some (_, _, src) => src.locs.map (·, .byte)
  | _, _, _, _, _, _, _ =>
    match i with
    | .priorRwRw _ m => [(.rw m, .word)]
    | .neg n | .cpl n | .div n | .divu n | .divl n | .divlu n => [(.rw n, .word)]
    | .negb n | .cplb n => [(.rb n, .byte)]
    | .mulRwRw n m | .muluRwRw n m => [(.rw n, .word), (.rw m, .word)]
    | .extsRw m _ | .extpRw m _ | .extsrRw m _ | .extprRw m _ => [(.rw m, .word)]
    | .calli _ n | .jmpi _ n => [(.rw n, .word)]
    | .bfldl q _ _ | .bfldh q _ _ => [(.bitoff q, .word)]
    | .bclr b | .bset b | .jb b _ | .jnb b _ | .jbc b _ | .jnbs b _ => [(.bitoff b.word, .word)]
    | .bcmp a b | .band a b | .bor a b | .bxor a b | .bmov a b | .bmovn a b =>
      [(.bitoff a.word, .word), (.bitoff b.word, .word)]
    | .push r | .pcall r _ | .scxtRegData16 r _ => [(.reg r, .word)]
    | .scxtRegMem r a => [(.reg r, .word), (.mem a, .word)]
    | _ => []

/-- The locations an instruction only writes: the destinations of the moves, of PRIOR, POP and RETP. -/
def writeOnlyLocs (i : Instr) : List Loc :=
  match moveWordForm i, moveByteForm i, extendForm i with
  | some (dst, _), _, _ => [dst]
  | _, some (dst, _), _ => [dst]
  | _, _, some (_, dst, _) => [dst]
  | _, _, _ =>
    match i with
    | .priorRwRw n _ => [.rw n]
    | .pop r | .retp r => [.reg r]
    | _ => []

/-- Every location an instruction names as an operand. -/
def operandLocs (i : Instr) : List Loc := (readLocs i).map Prod.fst ++ writeOnlyLocs i

end Sys2Proof.Machine
end

