-- ==== Sys2Proof/Certificates/Slice0/Obligations.lean ====
section
/-! DEFINITION. The statements for the provers. -/

open Sys2Proof Sys2Proof.Machine

/-! ## Encoding -/

/-- Decoding what `encode` writes gives the instruction back, with every operand at every value, whatever bytes follow
(30_encoding.md R100 to R103, R117). -/
def Obligations.DecodeEncode : Prop :=
  ∀ (i : Instr) (rest : List Byte), decode (encode i ++ rest) = .instr i rest

/-- Bytes that decode to an instruction are its encoding, but for the byte b3 that has no meaning in `OP RR ## xx`
(R111, R117, R118 items 2 to 4): no malformed field is accepted. -/
def Obligations.DecodeOnlyEncodings : Prop :=
  ∀ (bytes : List Byte) (i : Instr) (rest : List Byte), decode bytes = .instr i rest →
    ∃ head, bytes = head ++ rest ∧ head.length = i.length ∧
      (head = encode i ∨ hasUnusedByte i = true ∧ head.take 3 = (encode i).take 3)

/-- One or two words of every family, written out from the spec's encoding, decode to what they stand for. -/
def Obligations.DecodeWords : Prop :=
  decode [0x00, 0x12] = .instr (.addRwRw 1 2) [] ∧
  decode [0x08, 0x9D] = .instr (.addRwIndInc 9 1) [] ∧
  decode [0x06, 0xF1, 0x34, 0x12] = .instr (.addRegData16 0xF1 0x1234) [] ∧
  decode [0x1C, 0x41] = .instr (.rolRwData4 1 4) [] ∧
  decode [0xD7, 0x40, 0x02, 0x01] = .instr (.extpPag 0x102 0) [] ∧
  decode [0x7F, 0x88] = .instr (.bset ⟨0x88, 7⟩) [] ∧
  decode [0x0A, 0x88, 0x1F, 0x05] = .instr (.bfldl 0x88 0x1F 0x05) [] ∧
  decode [0x3D, 0xFE] = .instr (.jmpr .nz 0xFE) [] ∧
  decode [0xDA, 0x12, 0x34, 0x56] = .instr (.calls 0x12 0x5634) [] ∧
  decode [0x9B, 0x82] = .instr (.trap 0x41) [] ∧
  decode [0xA5, 0x5A, 0xA5, 0xA5] = .instr .diswdt [] ∧
  decode [0x4B, 0x33] = .instr (.div 3) [] ∧
  decode [0xC4, 0x21, 0x00, 0x10] = .instr (.movIndDispRw 1 0x1000 2) [] ∧
  decode [0xD0, 0x21] = .instr (.movbsRwRb 1 2) []

/-- The unassigned operation codes decode to no instruction (30_encoding.md R118 item 1); a protected operation code is an
instruction only with b1 its complement and b2, b3 its copies (45_system.md R310), else it is rejected as damaged (R118
item 5). -/
def Obligations.ReservedEncodings : Prop :=
  (∀ (b0 b1 b2 b3 : Byte) (rest : List Byte), b0 ∈ unassignedOpcodes →
     decode (b0 :: b1 :: b2 :: b3 :: rest) = .undefinedOpcode b0 b1) ∧
  (∀ (b0 b1 b2 b3 : Byte) (rest : List Byte), isProtected b0 = true →
     if b1 = ~~~b0 ∧ b2 = b0 ∧ b3 = b0 then
       ∃ i ∈ [Instr.diswdt, .einit, .idle, .pwrdn, .srst, .srvwdt],
         decode (b0 :: b1 :: b2 :: b3 :: rest) = .instr i rest ∧ encode i = [b0, b1, b2, b3]
     else decode (b0 :: b1 :: b2 :: b3 :: rest) = .protectionMismatch b0 b1 b2 b3)

/-! ## The machine -/

/-- With no event due, an even IP, and fetched bytes that decode to an instruction of the device free of a hazard, the
step runs that instruction: exec, then the sequence's count down and the watchdog's move (00_scope.md R13). That is with
`GPR_MODEL = memory_mapped`. With `abstract_file` (10_state.md R22) it is so too for a program that keeps to the file,
whatever the map has at CP; an instruction whose memory operand or stack WORD lies in the bank, CP .. CP + 31 in segment 0,
and one that writes CP, is refused (how the file is kept, and that a CP other than its reset value stands for a write of it,
is the model's choice, log entry 53). -/
def Obligations.StepRunsDecoded : Prop :=
  ∀ (s : State) (bytes : List Byte) (i : Instr), Quiet s → s.ip.getLsbD 0 = false → fetchBytes s = .ok bytes →
    decode bytes = .instr i [] → i.wf s.cfg.device = true → hazard i s = none →
    (s.cfg.gprModel = .memoryMapped →
      step s = mapNext (afterInstr i) (exec i { s with lastWrites := [] })) ∧
    (s.cfg.gprModel = .abstractFile → s.cp ≠ s.cfg.resetValues.cp &&& 0xFFFE → step s = .refused .cpWrite) ∧
    (s.cfg.gprModel = .abstractFile → s.cp = s.cfg.resetValues.cp &&& 0xFFFE →
      (∀ pa, inFile s.cfg pa = true ↔ ∃ k : Nat, k < 32 ∧ pa = (0 : Byte) ++ (s.cp + BitVec.ofNat 16 k)) ∧
      ((∀ pa ∈ reached i s, inFile s.cfg pa = false) →
        (∀ t, exec i { s with lastWrites := [] } = .next t →
          (.cp ∉ t.lastWrites → t.cp = s.cp → step s = .next (afterInstr i t)) ∧
          (.cp ∈ t.lastWrites ∨ t.cp ≠ s.cp → step s = .refused .cpWrite)) ∧
        (∀ e, exec i { s with lastWrites := [] } = .fault e → step s = .fault e) ∧
        (∀ e, exec i { s with lastWrites := [] } = .refused e → step s = .refused e)) ∧
      ((∃ pa ∈ reached i s, inFile s.cfg pa = true) →
        ∃ pa ∈ reached i s, inFile s.cfg pa = true ∧ step s = .refused (.registerFile pa))) ∧
    (∀ l w, (l, w) ∈ readLocs i → (∀ a, l = .mem a → dataAddr a s ∈ reached i s) ∧
      (BankInRam s → ∀ n, l = .ind n → dataAddr (gprWord n s) s ∈ reached i s)) ∧
    (∀ r, i = .push r → stackAddr (s.sp - 2) ∈ reached i s) ∧ (∀ r, i = .pop r → stackAddr s.sp ∈ reached i s)

/-- The fetched bytes lie at CSP[SEG_BITS-1:0] : (IP + k), the sum inside the segment (10_state.md R23, R24; 20_memory.md
R76). `DataAddr` (R72) is the segment override, the page override, segment 0 with SGTDIS = 1, else the page in the DPP
register that bits 15..14 select, truncated to `PA_BITS`, 24 or 18; with the reset values of the DPP registers it is the
address in segment 0. -/
def Obligations.AddressRules : Prop :=
  (∀ (s : State) (k : Nat), k < 4 →
     (codeAddr s k).toNat =
       (match s.cfg.device.segWidth with
         | .eight => s.csp.toNat % 256
         | .two => s.csp.toNat % 4) * 65536 + (s.ip.toNat + k) % 65536) ∧
  (∀ (s : State) (a : Word),
     let size := match s.cfg.device.segWidth with
       | .eight => 2 ^ 24
       | .two => 2 ^ 18
     (∀ g, s.seq.seg = some g → (dataAddr a s).toNat = (g.toNat * 65536 + a.toNat) % size) ∧
     (s.seq.seg = none →
       (∀ p, s.seq.page = some p → (dataAddr a s).toNat = (p.toNat * 16384 + a.toNat % 16384) % size) ∧
       (s.seq.page = none →
         (s.sgtdis = true → (dataAddr a s).toNat = a.toNat) ∧
         (s.sgtdis = false →
           (dataAddr a s).toNat =
             ((if a.toNat < 0x4000 then s.dpp0 else if a.toNat < 0x8000 then s.dpp1
               else if a.toNat < 0xC000 then s.dpp2 else s.dpp3).toNat % 1024 * 16384 + a.toNat % 16384) % size ∧
           (s.dpp0 = 0 → s.dpp1 = 1 → s.dpp2 = 2 → s.dpp3 = 3 → (dataAddr a s).toNat = a.toNat)))))

/-- Every step keeps the invariant. -/
def Obligations.StepKeepsInv : Prop :=
  ∀ s t : State, MachineInv s → step s = .next t → MachineInv t

/-- The invariant holds after reset. -/
def Obligations.ResetInv : Prop :=
  MachineInv State.reset

/-- No step changes the parameters of the machine (00_scope.md R4). -/
def Obligations.StepKeepsParameters : Prop :=
  ∀ s t : State, step s = .next t → t.cfg = s.cfg

/-- What the source fixes of the reset state (10_state.md R44): the flags 0, the watchdog running with its window open,
RSTOUT# low; and it is not in idle or power-down, with no sequence. -/
def Obligations.ResetState : Prop :=
  State.reset.flags = ⟨false, false, false, false, false⟩ ∧ State.reset.wdtEnabled = true ∧
  State.reset.wdtOpen = true ∧ State.reset.initDone = false ∧ State.reset.runState = .running ∧
  State.reset.seq.count = 0

/-- A reset by any cause (70_reset_and_hazards.md R450, R451) gives every register the value `RESET_STATE` has for it
(10_state.md R45), with the bits R33 holds at 0 and the flags at 0 (in PSW MULIP and the reserved bits too, every other bit
as the table has it), and everything else the value of the reset state; ROM
keeps its bytes, and nothing is said of RAM. The model's own choices, log entry 30: WDTR (WDTCON 0x0002) is set after a
watchdog reset, and the parameters and NMI# stay. With the default table every register has its value of the reset
state. -/
def Obligations.ResetEffect : Prop :=
  ∀ (s : State) (c : ResetCause),
    (let v := s.cfg.resetValues
     let u := s.resetBy c
     (u.ip = v.ip ∧ u.mdh = v.mdh ∧ u.mdl = v.mdl ∧ u.mdc = v.mdc ∧ u.syscon = v.syscon ∧ u.tfr = v.tfr ∧ u.wdt = v.wdt ∧
      u.csp = maskSeg s.cfg.device v.csp ∧ u.cp = v.cp &&& 0xFFFE ∧ u.sp = v.sp &&& 0xFFFE ∧
      u.stkov = v.stkov &&& 0xFFFE ∧ u.stkun = v.stkun &&& 0xFFFE ∧ u.dpp0 = v.dpp0 &&& 0x03FF ∧
      u.dpp1 = v.dpp1 &&& 0x03FF ∧ u.dpp2 = v.dpp2 &&& 0x03FF ∧ u.dpp3 = v.dpp3 &&& 0x03FF ∧
      u.wdtcon = (if c = .watchdog then v.wdtcon ||| 0x0002 else v.wdtcon)) ∧
     (let l := s.cfg.psw
      u.flags = ⟨false, false, false, false, false⟩ ∧ u.psw &&& l.reserved = 0 ∧ u.psw.getLsbD l.mulip.toNat = false ∧
      ∀ j : Nat, j < 16 → j ∉ [l.n.toNat, l.c.toNat, l.v.toNat, l.z.toNat, l.e.toNat, l.mulip.toNat] →
        l.reserved.getLsbD j = false → u.psw.getLsbD j = v.psw.getLsbD j) ∧
     u = { State.reset with
       cfg := s.cfg, nmiPin := s.nmiPin, mem := u.mem, draws := u.draws, ip := u.ip, csp := u.csp, cp := u.cp, sp := u.sp,
       stkov := u.stkov, stkun := u.stkun, psw := u.psw, mdh := u.mdh, mdl := u.mdl, mdc := u.mdc, dpp0 := u.dpp0,
       dpp1 := u.dpp1, dpp2 := u.dpp2, dpp3 := u.dpp3, syscon := u.syscon, tfr := u.tfr, wdt := u.wdt,
       wdtcon := u.wdtcon }) ∧
    (s.cfg.resetValues = {} → s.cfg.psw = {} →
      (s.resetBy c) =
        { State.reset with
          cfg := s.cfg, nmiPin := s.nmiPin, mem := (s.resetBy c).mem, draws := (s.resetBy c).draws,
          wdtcon := if c = .watchdog then 0x0002 else 0x0000 }) ∧
    ∀ a : Nat, classify s.cfg (BitVec.ofNat 24 a) = .rom → (s.resetBy c).mem.get a = s.mem.get a

/-- An external reset is taken before everything, in every run state; in power-down it is the only thing that happens
(70_reset_and_hazards.md R450; 45_system.md R315). An overflow of an enabled watchdog resets the chip in the running and
idle states, whatever else is pending (60_exceptions.md R405 item 1, R421). -/
def Obligations.ResetTaken : Prop :=
  (∀ s : State,
     (s.pending.reset = true → step s = .next (s.resetBy .external)) ∧
     (s.pending.reset = false → s.runState = .powerDown → step s = .next s)) ∧
  (∀ s : State, s.pending.reset = false → s.runState ≠ .powerDown → s.pending.wdtOverflow = true →
     s.wdtEnabled = true → step s = .next (s.resetBy .watchdog))

/-- An idle CPU executes nothing until a request comes, and then goes on as a running one (45_system.md R313): an NMI, a
stack overflow, a stack underflow, an interrupt request, a PEC request. That a masked interrupt and a PEC request end idle
too, in the step that examines them, is the model's choice (log entry 39). Meanwhile the watchdog counts: where `WDT_RATE`
gives a rate and the watchdog is enabled, a step adds the rate to WDT and a wrap requests the reset (60_exceptions.md
R423, R424). -/
def Obligations.IdleState : Prop :=
  (∀ s : State, s.pending.reset = false → s.runState = .idle → watchdogResets s = false →
    (s.pending.nmi = false → s.pending.stackOverflow = false → s.pending.stackUnderflow = false →
      s.pending.irqs = [] → s.pending.pec = [] → step s = .next s.tick) ∧
    (s.pending.nmi = true ∨ s.pending.stackOverflow = true ∨ s.pending.stackUnderflow = true ∨
        s.pending.irqs ≠ [] ∨ s.pending.pec ≠ [] →
      step s = step { s with runState := .running })) ∧
  (∀ s : State, (s.cfg.wdtRate = none ∨ s.wdtEnabled = false → s.tick = s) ∧
    (∀ rate, s.cfg.wdtRate = some rate → s.wdtEnabled = true →
      s.tick.wdt.toNat = (s.wdt.toNat + rate) % 65536 ∧
      (s.tick.pending.wdtOverflow = true ↔ s.pending.wdtOverflow = true ∨ 65536 ≤ s.wdt.toNat + rate) ∧
      s.tick = { s with
        wdt := s.tick.wdt, pending := { s.pending with wdtOverflow := s.tick.pending.wdtOverflow } }))

/-- `wdt_enabled` and `wdt_open` move as the table of 60_exceptions.md R422 says and in no other way: by any reset, by
the four instructions, and by no other step. -/
def Obligations.WatchdogWindow : Prop :=
  (∀ (s : State) (c : ResetCause), (s.resetBy c).wdtEnabled = true ∧ (s.resetBy c).wdtOpen = true) ∧
  (∀ (i : Instr) (s t : State), exec i s = .next t →
    t.wdtEnabled =
      (if i = .srst then true else if i = .diswdt ∧ s.wdtOpen = true then false else s.wdtEnabled) ∧
    t.wdtOpen = (if i = .srst then true else if i = .srvwdt ∨ i = .einit then false else s.wdtOpen)) ∧
  (∀ s t : State, step s = .next t → (∀ c, t ≠ s.resetBy c) →
    (∀ i ∈ [Instr.diswdt, .einit, .srst, .srvwdt], fetchInstr s ≠ .ok i) →
    t.wdtEnabled = s.wdtEnabled ∧ t.wdtOpen = s.wdtOpen)

/-- Among the instructions, RSTOUT# goes high by EINIT and low by SRST only, and from EINIT on none but SRST changes SYSCON
(10_state.md R32, R40; 45_system.md R312). Among the instructions, CSP is written by CALLS, JMPS, RETS, RETI, TRAP and SRST
alone, and each leaves a segment number of the device (10_state.md R28, R23). -/
def Obligations.LatchedRegisters : Prop :=
  (∀ (i : Instr) (s t : State), exec i s = .next t →
     t.initDone = (if i = .srst then false else if i = .einit then true else s.initDone) ∧
     (s.initDone = true → i ≠ .srst → t.syscon = s.syscon)) ∧
  (∀ (i : Instr) (s t : State), exec i s = .next t →
     (t.csp = s.csp ∨ i.mnemonic ∈ [.calls, .jmps, .rets, .reti, .trap, .srst]) ∧
     (t.csp = s.csp ∨ maskSeg s.cfg.device t.csp = t.csp))

/-- An instruction other than a sequence instruction, SRST, and one undone by a class B event leaves the sequence state
to the step, which counts it down and at the end drops the overrides (42_atomic_ext.md R220 items 4 and 5). The step then
moves the watchdog (60_exceptions.md R423); the count is known after SRVWDT and no other instruction (R424). That the step
of PWRDN itself still moves it is the model's choice (log entry 31). -/
def Obligations.SequenceCount : Prop :=
  (∀ (i : Instr) (s t : State), exec i s = .next t → startsSequence i = false → i ≠ .srst →
    (trapped s t → t.seq = {}) ∧
    (¬ trapped s t → t.seq = s.seq ∧
      (afterInstr i t).seq = (if s.seq.count = 1 then {} else { s.seq with count := s.seq.count - 1 }))) ∧
  (∀ (i : Instr) (t : State), i ≠ .srst →
    (afterInstr i t).wdtExact = decide (i = .srvwdt) ∧
    (afterInstr i t).wdt = t.tick.wdt ∧ (afterInstr i t).pending = t.tick.pending)

/-! ## Exceptions -/

/-- A class B event: with `HW_TRAP_ENTRY = fault` the step faults; with `modelled` its TFR bit is set, the sequence is
broken and the request stays for the next step, nothing else being changed; the TFR bit and the trap number are those of
its row in `HW_TRAP_TABLE`, by default bit 7, 3, 2 or 1 and 0x0A (60_exceptions.md R407, R408). The return address is the
faulting instruction's for UNDOPC and PRTFLT and a free value for ILLOPA and ILLINA. Where its own parameter says `refuse`
it is refused (00_scope.md R4, D7 to D10; the setting is the model's choice, log entry 52). -/
def Obligations.RaiseClassB : Prop :=
  (∀ (e : ClassB) (s : State),
    let setting := match e with
      | .undefinedOpcode _ _ => s.cfg.reservedOpcode
      | .protectionFault _ _ _ _ => s.cfg.protectedMismatch
      | .illegalWordOperandAccess _ => s.cfg.misalignedWord
      | .illegalInstructionAccess _ => s.cfg.oddTarget
    let row := match e with
      | .undefinedOpcode _ _ => s.cfg.trapTable.undefinedOpcode
      | .protectionFault _ _ _ _ => s.cfg.trapTable.protectionFault
      | .illegalWordOperandAccess _ => s.cfg.trapTable.illegalWordOperandAccess
      | .illegalInstructionAccess _ => s.cfg.trapTable.illegalInstructionAccess
    (setting = .refuse → raiseClassB e s = .refused (.classBRefused e)) ∧
    (setting = .raise → s.cfg.trapEntry = .fault → raiseClassB e s = .fault (.classB e)) ∧
    (setting = .raise → s.cfg.trapEntry = .modelled → ∃ (ret : Word) (n : Nat),
      raiseClassB e s =
        .next { s with
          tfr := s.tfr ||| row.flag, seq := {}, pending := { s.pending with classB := some ⟨row.number, ret⟩ },
          draws := n } ∧
      ((∃ b0 b1, e = .undefinedOpcode b0 b1) ∨ (∃ b0 b1 b2 b3, e = .protectionFault b0 b1 b2 b3) →
        ret = s.ip ∧ n = s.draws))) ∧
  (let t : TrapTable := {}
   t.undefinedOpcode = ⟨0x0A, 0x0080⟩ ∧ t.protectionFault = ⟨0x0A, 0x0008⟩ ∧
   t.illegalWordOperandAccess = ⟨0x0A, 0x0004⟩ ∧ t.illegalInstructionAccess = ⟨0x0A, 0x0002⟩)

/-- What the fetch raises, with no event due: an odd IP IllegalInstructionAccess; a reserved encoding and an instruction
the device lacks UndefinedOpcode; a damaged protected one ProtectionFault (44_call_jump_return.md R290; 30_encoding.md
R118; 60_exceptions.md R406). What it refuses, of the two or four bytes the first that cannot be fetched: one outside RAM
and ROM (20_memory.md R76), one that a store has changed where `SELF_MODIFYING_CODE = refuse` (R81), and one of the bank
with `GPR_MODEL = abstract_file` (10_state.md R22; log entry 53). -/
def Obligations.FetchStops : Prop :=
  (∀ s : State, Quiet s →
     (s.ip.getLsbD 0 = true →
       step s = mapNext endStep (raiseClassB (.illegalInstructionAccess s.ip) { s with lastWrites := [] })) ∧
     (s.ip.getLsbD 0 = false → ∀ bytes, fetchBytes s = .ok bytes →
       (∀ b0 b1, decode bytes = .undefinedOpcode b0 b1 →
         step s = mapNext endStep (raiseClassB (.undefinedOpcode b0 b1) { s with lastWrites := [] })) ∧
       (∀ b0 b1 b2 b3, decode bytes = .protectionMismatch b0 b1 b2 b3 →
         step s = mapNext endStep (raiseClassB (.protectionFault b0 b1 b2 b3) { s with lastWrites := [] })) ∧
       (∀ i b0 b1 tail, decode bytes = .instr i [] → bytes = b0 :: b1 :: tail → i.wf s.cfg.device = false →
         step s = mapNext endStep (raiseClassB (.undefinedOpcode b0 b1) { s with lastWrites := [] })))) ∧
  (∀ (s : State) (k : Nat), Quiet s → s.ip.getLsbD 0 = false →
     k < (if lengthOf (s.mem.get (codeAddr s 0).toNat) = 2 then 2 else 4) →
     (∀ j, j < k → classify s.cfg (codeAddr s j) = .rom ∨
       (classify s.cfg (codeAddr s j) = .ram ∧ inFile s.cfg (codeAddr s j) = false ∧
         (s.cfg.selfModifying = .sequential ∨ (codeAddr s j).toNat ∉ s.changed))) →
     (classify s.cfg (codeAddr s k) ≠ .ram → classify s.cfg (codeAddr s k) ≠ .rom →
       step s = .refused (.fetchOutsideMemory (codeAddr s k))) ∧
     (inFile s.cfg (codeAddr s k) = true → step s = .refused (.registerFile (codeAddr s k))) ∧
     (classify s.cfg (codeAddr s k) = .ram → inFile s.cfg (codeAddr s k) = false → s.cfg.selfModifying = .refuse →
       (codeAddr s k).toNat ∈ s.changed → step s = .refused (.selfModifiedCode (codeAddr s k))))

/-- A pending class B request is entered at the next step through the trap number it has, by default 0x0A, at level 15,
whatever PSW and a running sequence say; the sequence is dropped and the request consumed (60_exceptions.md R401, R405
item 2, R407, R408). -/
def Obligations.ClassBEntry : Prop :=
  ∀ (s : State) (x : ClassBRequest), s.pending.reset = false → s.runState = .running → watchdogResets s = false →
    s.cfg.trapEntry = .modelled → s.pending.classB = some x → s.mem.wf = true → EntryRoom s →
    ∃ u, step s = .next (endStep u) ∧
      Entered x.number x.ret (withIlvl s.cfg.psw s.psw 15)
        { s with seq := {}, pending := { s.pending with classB := none } } u

/-- Outside a sequence the first pending class A request, NMI before stack overflow before stack underflow, is entered
at level 15 through its row of `HW_TRAP_TABLE`, by default trap 2, 4 or 6, and returns to the next instruction; the request
is consumed, and an NMI sets its TFR bit, by default bit 15 (60_exceptions.md R405 item 3, R407, R409). With
`HW_TRAP_ENTRY = fault` a passed stack limit is a sticky fault (R409), and so is an NMI (00_scope.md R4). That the
stack-limit fault comes inside a sequence and before an NMI is the model's choice (log entry 26). -/
def Obligations.ClassAEvents : Prop :=
  (∀ s : State, Examining s → s.cfg.trapEntry = .modelled → s.seq.count = 0 → s.mem.wf = true → EntryRoom s →
     let t := s.cfg.trapTable
     let level := withIlvl s.cfg.psw s.psw 15
     (s.pending.nmi = true → ∃ u, step s = .next (endStep u) ∧
       Entered t.nmi.number s.ip level
         { s with tfr := s.tfr ||| t.nmi.flag, pending := { s.pending with nmi := false } } u) ∧
     (s.pending.nmi = false → s.pending.stackOverflow = true → ∃ u, step s = .next (endStep u) ∧
       Entered t.stackOverflow.number s.ip level
         { s with pending := { s.pending with stackOverflow := false } } u) ∧
     (s.pending.nmi = false → s.pending.stackOverflow = false → s.pending.stackUnderflow = true →
       ∃ u, step s = .next (endStep u) ∧
       Entered t.stackUnderflow.number s.ip level
         { s with pending := { s.pending with stackUnderflow := false } } u)) ∧
  (let t : TrapTable := {}
   t.nmi = ⟨0x02, 0x8000⟩ ∧ t.stackOverflow = ⟨0x04, 0x4000⟩ ∧ t.stackUnderflow = ⟨0x06, 0x2000⟩) ∧
  (∀ s : State, s.pending.reset = false → s.runState = .running → watchdogResets s = false → s.cfg.trapEntry = .fault →
     (s.pending.stackOverflow = true → step s = .fault .stackOverflow) ∧
     (s.pending.stackOverflow = false → s.pending.stackUnderflow = true → step s = .fault .stackUnderflow) ∧
     (s.pending.stackOverflow = false → s.pending.stackUnderflow = false → s.pending.nmi = true → s.seq.count = 0 →
       step s = .fault .nmi))

/-- While a sequence runs no class A request, interrupt request or PEC request is taken (42_atomic_ext.md R220 item 2). -/
def Obligations.SequenceLock : Prop :=
  ∀ (s : State) (p : Pending), Examining s → s.cfg.trapEntry = .modelled → s.seq.count ≠ 0 →
    p.reset = false → p.wdtOverflow = false → p.classB = none → step { s with pending := p } = runNext { s with pending := p }

/-- Outside a sequence and with no class A request, an interrupt request is taken iff IEN = 1 and its level is above
ILVL; the one taken has the highest level of those; its trap number is 0x10 or above, PSW.ILVL becomes its level, it is no
longer pending, and it returns to the next instruction (R401, R403, R405 item 4). That it comes before a pending PEC request
is the model's choice (log entry 28). -/
def Obligations.InterruptEntry : Prop :=
  ∀ s : State, Examining s → s.seq.count = 0 → firstClassA s.pending = none → s.mem.wf = true →
    (s.cfg.hazards = .sequential ∨ .psw ∉ s.lastWrites) → EntryRoom s →
    let l := s.cfg.psw
    ((∃ q ∈ s.pending.irqs, ienOf l s.psw = true ∧ ilvlOf l s.psw < q.level) →
      ∃ r ∈ s.pending.irqs, ienOf l s.psw = true ∧ ilvlOf l s.psw < r.level ∧ 0x10 ≤ r.trapNo.toNat ∧
        (∀ q ∈ s.pending.irqs, ilvlOf l s.psw < q.level → q.level ≤ r.level) ∧
        ∃ u, step s = .next (endStep u) ∧
          Entered r.trapNo s.ip (withIlvl l s.psw r.level)
            { s with pending := { s.pending with irqs := s.pending.irqs.erase r } } u) ∧
    ((∀ q ∈ s.pending.irqs, ienOf l s.psw = false ∨ q.level ≤ ilvlOf l s.psw) → s.pending.pec = [] → step s = runNext s)

/-- A PEC request is served between two instructions, outside a sequence, when no trap or interrupt is due (R404, R405 item
4): a byte of RAM or of the platform that it lists reads as the last value it lists for it, every other byte is as it was,
and no CPU register changes. That the transfer is data in the state and is served whole, in its turn, is the model's
choice (log entries 27 and 28), and so is that one into the register bank changes it as RAM with `memory_mapped` (log entry
51); with `abstract_file` the bank is left alone. -/
def Obligations.PecTransferEffect : Prop :=
  ∀ (s : State) (x : PecTransfer) (rest : List PecTransfer), Examining s → s.seq.count = 0 →
    firstClassA s.pending = none → s.pending.irqs = [] → s.pending.pec = x :: rest → s.mem.wf = true →
    (s.cfg.gprModel = .abstractFile → s.cp = s.cfg.resetValues.cp &&& 0xFFFE) →
    let takes := fun a : Nat => a < 2 ^ 24 ∧
      (classify s.cfg (BitVec.ofNat 24 a) = .platform ∨
        (classify s.cfg (BitVec.ofNat 24 a) = .ram ∧ inFile s.cfg (BitVec.ofNat 24 a) = false))
    ∃ u, step s = .next (endStep u) ∧
      u = { s with mem := u.mem, changed := u.changed, pending := { s.pending with pec := rest } } ∧
      (∀ (before after : List Host.Cell) (a : Nat) (b : Byte), x.cells = before ++ (a, b) :: after →
        a ∉ after.map Prod.fst → takes a → u.mem.get a = b) ∧
      (∀ a : Nat, (a ∉ x.cells.map Prod.fst ∨ ¬ takes a) → u.mem.get a = s.mem.get a)

/-- TRAP: the entry sequence with the address of the next instruction, PSW as it was (44_call_jump_return.md R289; R401). -/
def Obligations.TrapResult : Prop :=
  ∀ (s : State) (t : BitVec 7), s.mem.wf = true → StackRoom (if s.sgtdis then 2 else 3) s →
    ∃ u, exec (.trap t) s = .next u ∧ Entered t (s.ip + 2) s.psw s u

/-- RETI: IP, CSP with segmentation enabled, and PSW are popped (44_call_jump_return.md R286; R410). A popped MULIP = 1 is
refused (46_mul_div.md R337), and so is a RETI to the frame of an entry that met the other value of SGTDIS (R410,
70_reset_and_hazards.md R461 f; which entry a RETI matches is the model's choice, log entry 37). -/
def Obligations.RetiResult : Prop :=
  ∀ s : State,
    (∀ b, s.frames.find? (fun f => decide (f.1 = s.sp)) = some (s.sp, b) → b ≠ s.sgtdis →
      exec .reti s = .refused .segmentationChanged) ∧
    ((∀ f ∈ s.frames, f.1 = s.sp → f.2 = s.sgtdis) →
      let kept := s.frames.filter fun f => decide (f.1 ≠ s.sp)
      let mulip := fun w : Word => w.getLsbD s.cfg.psw.mulip.toNat
      (s.sgtdis = false → StackHolds 3 s →
        (mulip (stackWord 2 s) = true → exec .reti s = .refused .mulipWrite) ∧
        (mulip (stackWord 2 s) = false → ∃ u, exec .reti s = .next u ∧
          u.pending = { s.pending with stackUnderflow := s.pending.stackUnderflow || decide (s.stkun < s.sp + 6) } ∧
          u = { s with
            ip := stackWord 0 s, csp := maskSeg s.cfg.device (stackWord 1 s),
            psw := stackWord 2 s &&& ~~~s.cfg.psw.reserved, sp := s.sp + 6, frames := kept, pending := u.pending,
            tfr := u.tfr })) ∧
      (s.sgtdis = true → StackHolds 2 s →
        (mulip (stackWord 1 s) = true → exec .reti s = .refused .mulipWrite) ∧
        (mulip (stackWord 1 s) = false → ∃ u, exec .reti s = .next u ∧
          u.pending = { s.pending with stackUnderflow := s.pending.stackUnderflow || decide (s.stkun < s.sp + 4) } ∧
          u = { s with
            ip := stackWord 0 s, psw := stackWord 1 s &&& ~~~s.cfg.psw.reserved, sp := s.sp + 4, frames := kept,
            pending := u.pending, tfr := u.tfr })))

/-- RETI undoes TRAP: it goes on after it with the same CSP, PSW and SP, and every byte at or above SP as it was
(44_call_jump_return.md R286, R289; R410). -/
def Obligations.TrapThenReturn : Prop :=
  ∀ (s u v : State) (t : BitVec 7), MachineInv s → StackRoom (if s.sgtdis then 2 else 3) s →
    exec (.trap t) s = .next u → exec .reti u = .next v →
    v.ip = s.ip + 2 ∧ v.csp = s.csp ∧ v.psw = s.psw ∧ v.sp = s.sp ∧
      ∀ a, s.sp.toNat ≤ a → v.mem.get a = s.mem.get a

/-! ## Hazards -/

/-- With `PIPELINE_HAZARD_POLICY = refuse` an instruction is not run right after an explicit write of a register it uses
as the table of 70_reset_and_hazards.md R460 lists; with `sequential` it always is. The rows: CP, naming a general register;
SP, STKOV, STKUN, using the stack; DPPk, `mem` or `[...]` addressing outside an EXTP or EXTS override; PSW, reading a flag,
PSW as an operand, or TRAP; SYSCON, TRAP, RETI, `mem` or `[...]` addressing; no other register. A WORD or BYTE operand
written to a core register is noted for the next instruction; pushes, pops, pointer updates, flags and trap entries are
not; a NOP lifts the refusal. That these writes are noted as data, and that cc_UC reads no flag, is the model's choice (log
entries 13 and 46). -/
def Obligations.HazardRule : Prop :=
  (∀ (s : State) (i : Instr), Quiet s → fetchInstr s = .ok i →
     (s.cfg.hazards = .sequential → step s = mapNext (afterInstr i) (runInstr i s)) ∧
     (s.cfg.hazards = .refuse →
       ((∀ r ∈ s.lastWrites, usesCore r i s = false) → step s = mapNext (afterInstr i) (runInstr i s)) ∧
       ((∃ r ∈ s.lastWrites, usesCore r i s = true) →
         ∃ r ∈ s.lastWrites, usesCore r i s = true ∧ step s = .refused (.pipelineHazard r)))) ∧
  (∀ (i : Instr) (s : State),
     let usesStack := i.mnemonic ∈
       [.push, .pop, .scxt, .pcall, .retp, .calla, .calli, .callr, .calls, .ret, .rets, .reti, .trap]
     let inData := ∃ l ∈ operandLocs i, (∃ a, l = .mem a) ∨ (∃ n, l = .ind n) ∨ (∃ n, l = .indInc n) ∨
       (∃ n, l = .indDec n) ∨ (∃ n d, l = .indDisp n d)
     (usesCore .cp i s = true ↔ ∃ l ∈ operandLocs i, (∃ n, l = .rw n) ∨ (∃ n, l = .rb n) ∨
       (∃ r, (l = .reg r ∨ l = .bitoff r) ∧ 0xF0 ≤ r.toNat) ∨ (∃ n, l = .ind n) ∨ (∃ n, l = .indInc n) ∨
       (∃ n, l = .indDec n) ∨ (∃ n d, l = .indDisp n d)) ∧
     (usesCore .sp i s = true ↔ usesStack) ∧ (usesCore .stkov i s = true ↔ usesStack) ∧
     (usesCore .stkun i s = true ↔ usesStack) ∧
     (∀ k, usesCore (.dpp k) i s = true ↔ s.seq.page = none ∧ s.seq.seg = none ∧ inData) ∧
     (usesCore .psw i s = true ↔
       i.mnemonic ∈ [.addc, .addcb, .subc, .subcb, .trap] ∨
       (∃ cc n a rel, cc ≠ .uc ∧ (i = .calla cc a ∨ i = .jmpa cc a ∨ i = .calli cc n ∨ i = .jmpi cc n ∨ i = .jmpr cc rel)) ∨
       (∃ l w pa u, (l, w) ∈ readLocs i ∧ l.addr w s = .ok (pa, u) ∧ classify s.cfg pa = .core .psw)) ∧
     (usesCore .syscon i s = true ↔ i.mnemonic ∈ [.trap, .reti] ∨ inData) ∧
     (∀ r ∈ [CoreReg.csp, .mdh, .mdl, .mdc, .zeros, .ones, .tfr, .wdt, .wdtcon], usesCore r i s = false)) ∧
  (∀ (pa : PhysAddr) (s t : State),
     let noted := match classify s.cfg pa with
       | .core r => r :: s.lastWrites
       | _ => s.lastWrites
     (∀ v, writeDstW pa v s = .ok t → t.lastWrites = noted) ∧ (∀ v, writeDstB pa v s = .ok t → t.lastWrites = noted)) ∧
  (∀ s t : State,
     (∀ v, push v s = .ok t → t.lastWrites = s.lastWrites) ∧
     (∀ v, pop s = .ok (v, t) → t.lastWrites = s.lastWrites) ∧
     (∀ (l : Loc) (w : Width), l.before w s = .ok t ∨ l.after w s = .ok t → t.lastWrites = s.lastWrites) ∧
     (∀ f, (s.setFlags f).lastWrites = s.lastWrites) ∧
     (∀ n ret level, enterTrap n ret level s = .ok t → t.lastWrites = s.lastWrites) ∧
     (returnFromTrap s = .ok t → t.lastWrites = s.lastWrites)) ∧
  (∀ s : State, ∃ t, exec .nop { s with lastWrites := [] } = .next t ∧ t.lastWrites = [])

/-! ## Arithmetic and logic -/

/-- ADD, ADDC, SUB, SUBC, CMP, AND, OR, XOR: op1 and op2 are read in this order, op2 with its post-increment, the flags
are written, then, but for CMP, op1 (40_arith_logic.md R140, R145 to R168; 20_memory.md R68, R77). -/
def Obligations.AluWordResult : Prop :=
  ∀ (i : Instr) (op : AluOp) (dst : Loc) (src : Src 16) (s : State),
    aluWordForm i = some (op, dst, src) → BankInRam s →
    accessStop .word (effAddr dst .word s) s.cfg = none → sourceStop .word src s = none →
    let pa := effAddr dst .word s
    let a := (loadedW pa s).1
    let b := (sourceW src (loadedW pa s).2).1
    let x := op.compute a b s.flags
    let u := ((sourceW src (loadedW pa s).2).2).setFlags x.2
    (op ≠ .cmp → writeStop .word pa x.1 s = none) →
    exec i s = .next ((if op = .cmp then u else putW pa x.1 u).advance i.length)

/-- ADDB, ADDCB, SUBB, SUBCB, CMPB, ANDB, ORB, XORB, as the WORD forms (40_arith_logic.md R141, R146 to R168). -/
def Obligations.AluByteResult : Prop :=
  ∀ (i : Instr) (op : AluOp) (dst : Loc) (src : Src 8) (s : State),
    aluByteForm i = some (op, dst, src) → BankInRam s →
    accessStop .byte (effAddr dst .byte s) s.cfg = none → sourceStop .byte src s = none →
    let pa := effAddr dst .byte s
    let a := (loadedB pa s).1
    let b := (sourceB src (loadedB pa s).2).1
    let x := op.compute a b s.flags
    let u := ((sourceB src (loadedB pa s).2).2).setFlags x.2
    (op ≠ .cmp → writeStop .byte pa (wordOfByte pa.toNat x.1) s = none) →
    exec i s = .next ((if op = .cmp then u else putB pa x.1 u).advance i.length)

/-- CMPI1, CMPI2, CMPD1, CMPD2: the flags of op1 - op2, then op1 moved by 1 or 2 (40_arith_logic.md R153 to R156). NEG,
NEGB, CPL, CPLB: the negative with the flags of 0 - op1, the complement with the logic flags (R157 to R160). -/
def Obligations.RegisterOnlyResult : Prop :=
  (∀ (i : Instr) (δ : Word) (n : BitVec 4) (src : Src 16) (s : State),
     compareForm i = some (δ, n, src) → BankInRam s → sourceStop .word src s = none →
     let a := gprWord n s
     exec i s =
       .next ((((sourceW src s).2.setFlags (subFlags a (sourceW src s).1 false).2).setGpr n (a + δ)).advance i.length)) ∧
  (∀ (s : State) (n : BitVec 4), BankInRam s →
     exec (.neg n) s =
       .next (((s.setFlags (subFlags 0 (gprWord n s) false).2).setGpr n (-gprWord n s)).advance 2) ∧
     exec (.cpl n) s =
       .next (((s.setFlags (logicFlags (gprWord n s) (~~~gprWord n s))).setGpr n (~~~gprWord n s)).advance 2) ∧
     exec (.negb n) s =
       .next (((s.setFlags (subFlags 0 (gprByte n s) false).2).storeByte (gprByteAddr s n).toNat (-gprByte n s)).advance 2) ∧
     exec (.cplb n) s =
       .next (((s.setFlags (logicFlags (gprByte n s) (~~~gprByte n s))).storeByte (gprByteAddr s n).toNat
         (~~~gprByte n s)).advance 2))

/-- `AddFlags` (R142): the result wraps, E says that op2 is 0x8000 or 0x80, C is the carry out, V says that the signed
sum does not fit, which is the identity of the signs. -/
def Obligations.AddFlagsRule : Prop :=
  ∀ (w : Nat) (a b : BitVec w) (cin : Bool), w = 16 ∨ w = 8 →
    let x := addFlags a b cin
    let sum : Int := a.toInt + b.toInt + bitNat cin
    x.1 = a + b + BitVec.ofNat w (bitNat cin) ∧
    (x.2.e = true ↔ b.toNat = 2 ^ (w - 1)) ∧ (x.2.z = true ↔ x.1 = 0) ∧ x.2.n = x.1.msb ∧
    (x.2.c = true ↔ 2 ^ w ≤ a.toNat + b.toNat + bitNat cin) ∧
    (x.2.v = true ↔ sum < -(2 ^ (w - 1)) ∨ sum > 2 ^ (w - 1) - 1) ∧
    (x.2.v = true ↔ a.msb = b.msb ∧ x.1.msb ≠ a.msb)

/-- `SubFlags` (R143): the result wraps, E says that op2 is 0x8000 or 0x80, C is a borrow, so that cc_ULT is "less than,
unsigned" after a CMP, V says that the signed difference does not fit, which is the identity of the signs. -/
def Obligations.SubFlagsRule : Prop :=
  ∀ (w : Nat) (a b : BitVec w) (bin : Bool), w = 16 ∨ w = 8 →
    let x := subFlags a b bin
    let diff : Int := a.toInt - b.toInt - bitNat bin
    x.1 = a - b - BitVec.ofNat w (bitNat bin) ∧
    (x.2.e = true ↔ b.toNat = 2 ^ (w - 1)) ∧ (x.2.z = true ↔ x.1 = 0) ∧ x.2.n = x.1.msb ∧
    (x.2.c = true ↔ a.toNat < b.toNat + bitNat bin) ∧
    (x.2.v = true ↔ diff < -(2 ^ (w - 1)) ∨ diff > 2 ^ (w - 1) - 1) ∧
    (x.2.v = true ↔ a.msb ≠ b.msb ∧ x.1.msb ≠ a.msb) ∧
    (condHolds (subFlags a b false).2 .c = true ↔ a.toNat < b.toNat)

/-- What each group computes: AND, OR, XOR with the flags of R144; ADD, SUB and CMP without, ADDC and SUBC with the carry,
and Z of the last two only kept, never set (R142 to R168). -/
def Obligations.AluOperations : Prop :=
  ∀ (w : Nat) (a b : BitVec w) (f : Flags),
    AluOp.and.compute a b f = (a &&& b, ⟨decide (b = minNeg w), decide (a &&& b = 0), false, false, (a &&& b).msb⟩) ∧
    AluOp.or.compute a b f = (a ||| b, ⟨decide (b = minNeg w), decide (a ||| b = 0), false, false, (a ||| b).msb⟩) ∧
    AluOp.xor.compute a b f = (a ^^^ b, ⟨decide (b = minNeg w), decide (a ^^^ b = 0), false, false, (a ^^^ b).msb⟩) ∧
    AluOp.add.compute a b f = addFlags a b false ∧ AluOp.sub.compute a b f = subFlags a b false ∧
    AluOp.cmp.compute a b f = subFlags a b false ∧
    (AluOp.addc.compute a b f).1 = (addFlags a b f.c).1 ∧
    (AluOp.addc.compute a b f).2 = { (addFlags a b f.c).2 with z := (addFlags a b f.c).2.z && f.z } ∧
    (AluOp.subc.compute a b f).1 = (subFlags a b f.c).1 ∧
    (AluOp.subc.compute a b f).2 = { (subFlags a b f.c).2 with z := (subFlags a b f.c).2.z && f.z }

/-- A WORD operand at an odd address raises IllegalWordOperandAccess with that address, and the instruction has no other
effect, the pointer updates included: either operand of an arithmetic, logic or compare form, the `mem` operand of CMPI1,
CMPI2, CMPD1, CMPD2, either operand of a MOV, the destination of MOVBS and MOVBSZ, the `mem` operand of SCXT (20_memory.md
R65, R73; 40_arith_logic.md R169; 47_data_move.md R359; 60_exceptions.md R406, R408). That it does so too where nothing
stands at the odd address is the model's choice (log entry 49). -/
def Obligations.OddWordAccessTraps : Prop :=
  (∀ (i : Instr) (op : AluOp) (dst : Loc) (src : Src 16) (s : State),
     aluWordForm i = some (op, dst, src) → BankInRam s →
     ((effAddr dst .word s).getLsbD 0 = true →
       exec i s = raiseClassB (.illegalWordOperandAccess (effAddr dst .word s)) s) ∧
     (accessStop .word (effAddr dst .word s) s.cfg = none →
       ∀ l, src = .loc l → (effAddr l .word s).getLsbD 0 = true →
         exec i s = raiseClassB (.illegalWordOperandAccess (effAddr l .word s)) s)) ∧
  (∀ (i : Instr) (δ : Word) (n : BitVec 4) (a : Word) (s : State),
     compareForm i = some (δ, n, .loc (.mem a)) → BankInRam s → (dataAddr a s).getLsbD 0 = true →
     exec i s = raiseClassB (.illegalWordOperandAccess (dataAddr a s)) s) ∧
  (∀ (i : Instr) (dst : Loc) (src : Src 16) (s : State),
     moveWordForm i = some (dst, src) → BankInRam s →
     (∀ l, src = .loc l → (effAddr l .word s).getLsbD 0 = true →
       exec i s = raiseClassB (.illegalWordOperandAccess (effAddr l .word s)) s) ∧
     (sourceStop .word src s = none → (effAddr dst .word s).getLsbD 0 = true →
       exec i s = raiseClassB (.illegalWordOperandAccess (effAddr dst .word s)) s)) ∧
  (∀ (i : Instr) (x : Extension) (dst : Loc) (src : Src 8) (s : State),
     extendForm i = some (x, dst, src) → BankInRam s → sourceStop .byte src s = none →
     (effAddr dst .word s).getLsbD 0 = true →
     exec i s = raiseClassB (.illegalWordOperandAccess (effAddr dst .word s)) s) ∧
  (∀ (r : Byte) (a : Word) (s : State), accessStop .word (regAddr r .word s) s.cfg = none →
     (dataAddr a s).getLsbD 0 = true →
     exec (.scxtRegMem r a) s = raiseClassB (.illegalWordOperandAccess (dataAddr a s)) s)

/-- What a WORD or BYTE arithmetic, logic or compare form leaves unchanged: everything but IP, the flags, op1 (nothing
for CMP and CMPB), the pointer of `[Rw_i+]`, and MDRIU; or it was undone by a class B event (R140, R141, R169). -/
def Obligations.AluFrame : Prop :=
  ∀ (i : Instr) (s t : State), BankInRam s → exec i s = .next t →
    (∀ op dst src, aluWordForm i = some (op, dst, src) →
      trapped s t ∨
        OnlyWrites .word (if op = .cmp then none else some (effAddr dst .word s)) src.pointer s t) ∧
    (∀ op dst src, aluByteForm i = some (op, dst, src) →
      trapped s t ∨
        OnlyWrites .byte (if op = .cmp then none else some (effAddr dst .byte s)) src.pointer s t)

/-! ## Shifts and bits -/

/-- ROL, ROR, SHL, SHR, ASHR: op1 shifted by the low four bits of op2 (41_shift_rotate.md R200); PRIOR: the count of
leading zeros of op2 (R202). -/
def Obligations.ShiftResult : Prop :=
  (∀ (i : Instr) (op : ShiftOp) (n : BitVec 4) (src : Src 16) (s : State),
    shiftForm i = some (op, n, src) → BankInRam s →
    let x := op.compute (gprWord n s) ((sourceW src s).1.extractLsb' 0 4).toNat
    exec i s = .next (((s.setFlags x.2).setGpr n x.1).advance 2)) ∧
  (∀ (n m : BitVec 4) (s : State), BankInRam s →
    exec (.priorRwRw n m) s =
      .next (((s.setFlags ⟨false, decide (gprWord m s = 0), false, false, false⟩).setGpr n
        (priorValue (gprWord m s))).advance 2))

/-- The values of the shifts and rotates by 0 to 15 positions, with C the last bit out and, for ASHR, ROR and SHR, V
saying that an earlier bit out was 1 (41_shift_rotate.md R201, R203 to R206). The count of PRIOR: 0 for 0, else the only
count below 16 that brings the leading 1 to bit 15 (R202). -/
def Obligations.ShiftValues : Prop :=
  (∀ (a : Word) (c : Nat), c < 16 →
     (ShiftOp.shl.compute a c).1 = a <<< c ∧ (ShiftOp.shr.compute a c).1 = a >>> c ∧
     (ShiftOp.ashr.compute a c).1 = a.sshiftRight c ∧ (ShiftOp.rol.compute a c).1 = a.rotateLeft c ∧
     (ShiftOp.ror.compute a c).1 = a.rotateRight c ∧
     (∀ op, (ShiftOp.compute op a c).2.e = false ∧
       ((ShiftOp.compute op a c).2.z = true ↔ (ShiftOp.compute op a c).1 = 0) ∧
       (ShiftOp.compute op a c).2.n = (ShiftOp.compute op a c).1.msb) ∧
     (∀ op ∈ [ShiftOp.shl, .rol], (ShiftOp.compute op a c).2.v = false ∧
       (ShiftOp.compute op a c).2.c = (decide (c ≠ 0) && a.getLsbD (16 - c))) ∧
     (∀ op ∈ [ShiftOp.shr, .ashr, .ror],
       (ShiftOp.compute op a c).2.c = (decide (c ≠ 0) && a.getLsbD (c - 1)) ∧
       ((ShiftOp.compute op a c).2.v = true ↔ a.toNat % 2 ^ (c - 1) ≠ 0))) ∧
  (priorValue 0 = 0 ∧
   ∀ b : Word, b ≠ 0 → (priorValue b).toNat < 16 ∧ b.toNat * 2 ^ (priorValue b).toNat < 2 ^ 16 ∧
     (b <<< (priorValue b).toNat).msb = true)

/-- The bit and bit-field instructions: the WORD is read, changed and written back whole; the flags are R241's of two
bits, R242's of the bit as it was, or those of the whole WORD for BFLDL and BFLDH (43_bit.md R243 to R252). BCMP writes no
operand. That two operands in one platform WORD are two free reads is the model's choice (log entry 54). -/
def Obligations.BitResult : Prop :=
  ∀ (s : State) (dst src b : BitAddr) (q mask data : Byte),
    (let pa := bitWordAddr q s
     let w := (loadedW pa s).1
     let lo : Word := w.extractLsb' 8 8 ++ ((w.extractLsb' 0 8 &&& ~~~mask) ||| data)
     let hi : Word := ((w.extractLsb' 8 8 &&& ~~~mask) ||| data) ++ w.extractLsb' 0 8
     accessStop .word pa s.cfg = none →
      (writeStop .word pa lo s = none → exec (.bfldl q mask data) s =
        .next ((putW pa lo ((loadedW pa s).2.setFlags ⟨false, decide (lo = 0), false, false, lo.msb⟩)).advance 4)) ∧
      (writeStop .word pa hi s = none → exec (.bfldh q mask data) s =
        .next ((putW pa hi ((loadedW pa s).2.setFlags ⟨false, decide (hi = 0), false, false, hi.msb⟩)).advance 4))) ∧
    (let pa := bitWordAddr b.word s
     let w := (loadedW pa s).1
     let u := (loadedW pa s).2.setFlags (oneBitFlags (bitAt w b.bit))
     accessStop .word pa s.cfg = none →
      (writeStop .word pa (withBitAt w b.bit false) s = none →
        exec (.bclr b) s = .next ((putW pa (withBitAt w b.bit false) u).advance 2)) ∧
      (writeStop .word pa (withBitAt w b.bit true) s = none →
        exec (.bset b) s = .next ((putW pa (withBitAt w b.bit true) u).advance 2))) ∧
    (let pd := bitWordAddr dst.word s
     let ps := bitWordAddr src.word s
     let w := (loadedW pd s).1
     let a := bitAt w dst.bit
     let c := bitAt (loadedW ps (loadedW pd s).2).1 src.bit
     let u := (loadedW ps (loadedW pd s).2).2.setFlags (twoBitFlags a c)
     accessStop .word pd s.cfg = none → accessStop .word ps s.cfg = none →
      exec (.bcmp dst src) s = .next (u.advance 4) ∧
      (writeStop .word pd (withBitAt w dst.bit (a && c)) s = none →
        exec (.band dst src) s = .next ((putW pd (withBitAt w dst.bit (a && c)) u).advance 4)) ∧
      (writeStop .word pd (withBitAt w dst.bit (a || c)) s = none →
        exec (.bor dst src) s = .next ((putW pd (withBitAt w dst.bit (a || c)) u).advance 4)) ∧
      (writeStop .word pd (withBitAt w dst.bit (a ^^ c)) s = none →
        exec (.bxor dst src) s = .next ((putW pd (withBitAt w dst.bit (a ^^ c)) u).advance 4))) ∧
    (let pd := bitWordAddr dst.word s
     let ps := bitWordAddr src.word s
     let c := bitAt (loadedW ps s).1 src.bit
     let w := (loadedW pd (loadedW ps s).2).1
     let u := (loadedW pd (loadedW ps s).2).2.setFlags (oneBitFlags c)
     accessStop .word pd s.cfg = none → accessStop .word ps s.cfg = none →
      (writeStop .word pd (withBitAt w dst.bit c) s = none →
        exec (.bmov dst src) s = .next ((putW pd (withBitAt w dst.bit c) u).advance 4)) ∧
      (writeStop .word pd (withBitAt w dst.bit (!c)) s = none →
        exec (.bmovn dst src) s = .next ((putW pd (withBitAt w dst.bit (!c)) u).advance 4)))

/-- The flags of the bit instructions by their truth tables (R241, R242), and the change of one bit, which keeps the
fifteen others (20_memory.md R74). -/
def Obligations.BitValues : Prop :=
  (∀ a b : Bool,
    (twoBitFlags a b).e = false ∧ ((twoBitFlags a b).z = true ↔ a = false ∧ b = false) ∧
    ((twoBitFlags a b).v = true ↔ a = true ∨ b = true) ∧ ((twoBitFlags a b).c = true ↔ a = true ∧ b = true) ∧
    ((twoBitFlags a b).n = true ↔ a ≠ b)) ∧
  (∀ b : Bool, oneBitFlags b = ⟨false, !b, false, false, b⟩) ∧
  (∀ (w : Word) (q : BitVec 4) (b : Bool) (j : Nat), j < 16 →
    (withBitAt w q b).getLsbD j = if j = q.toNat then b else w.getLsbD j)

/-- What the register and bit instructions leave unchanged: everything but IP, the flags, the destination, the pointer,
and MDRIU; or a compare of a misaligned `mem`, or a bit instruction of a map whose bit areas begin at an odd address, was
undone by a class B event (20_memory.md R65; 40_arith_logic.md R153 to R160; 41_shift_rotate.md R200; 43_bit.md R243 to
R252). With even bases, as in every map of the spec, no bit instruction is undone. -/
def Obligations.RegisterFrame : Prop :=
  ∀ (i : Instr) (s t : State), BankInRam s → exec i s = .next t →
    (∀ δ n src, compareForm i = some (δ, n, src) → trapped s t ∨ OnlyWrites .word (some (gprAddr s n)) [] s t) ∧
    (∀ op n src, shiftForm i = some (op, n, src) → OnlyWrites .word (some (gprAddr s n)) [] s t) ∧
    (∀ n m, i = .priorRwRw n m → OnlyWrites .word (some (gprAddr s n)) [] s t) ∧
    (∀ n, i = .neg n ∨ i = .cpl n → OnlyWrites .word (some (gprAddr s n)) [] s t) ∧
    (∀ n, i = .negb n ∨ i = .cplb n → OnlyWrites .byte (some (gprByteAddr s n)) [] s t) ∧
    (let odd := s.cfg.bases.bitRam.getLsbD 0 = true ∨ s.cfg.bases.bitSfr.getLsbD 0 = true ∨
       s.cfg.bases.bitEsfr.getLsbD 0 = true
     (∀ q m d, i = .bfldl q m d ∨ i = .bfldh q m d →
       (odd ∧ trapped s t) ∨ OnlyWrites .word (some (bitWordAddr q s)) [] s t) ∧
     (∀ b, i = .bclr b ∨ i = .bset b → (odd ∧ trapped s t) ∨ OnlyWrites .word (some (bitWordAddr b.word s)) [] s t) ∧
     (∀ a b, i = .bcmp a b → (odd ∧ trapped s t) ∨ OnlyWrites .word none [] s t) ∧
     (∀ a b, i = .band a b ∨ i = .bor a b ∨ i = .bxor a b ∨ i = .bmov a b ∨ i = .bmovn a b →
       (odd ∧ trapped s t) ∨ OnlyWrites .word (some (bitWordAddr a.word s)) [] s t))

/-! ## Data movement and the stack -/

/-- MOV: the destination's address is formed first, the source read with its post-increment, the destination written
between its pre-decrement and its post-increment, then the flags, which are lost where the destination is PSW
(47_data_move.md R350, R351, R358, R359; 20_memory.md R68, R73, R77). The flags of a move: E, Z and N say that the value is
0x8000 or 0x80, that it is 0, and its highest bit; V and C are kept (R350). -/
def Obligations.MoveWordResult : Prop :=
  (∀ (i : Instr) (dst : Loc) (src : Src 16) (s : State),
    moveWordForm i = some (dst, src) → BankInRam s → sourceStop .word src s = none →
    let pa := effAddr dst .word s
    let v := (sourceW src s).1
    let u := incremented dst .word (putW pa v (decremented dst .word (sourceW src s).2))
    writeStop .word pa v s = none →
    (∀ n, dst = .indInc n → BankInRam (putW pa v (decremented dst .word (sourceW src s).2))) →
    exec i s =
      .next ((if classify s.cfg pa = .core .psw then u else u.setFlags (moveFlags v s.flags)).advance i.length)) ∧
  (∀ (w : Nat) (v : BitVec w) (f : Flags), w = 16 ∨ w = 8 →
    ((moveFlags v f).e = true ↔ v.toNat = 2 ^ (w - 1)) ∧ ((moveFlags v f).z = true ↔ v = 0) ∧
    (moveFlags v f).n = v.msb ∧ (moveFlags v f).v = f.v ∧ (moveFlags v f).c = f.c)

/-- MOVB, as MOV with BYTE accesses and steps of 1 (47_data_move.md R352). MOVBS and MOVBSZ: the BYTE extended to a WORD
by its sign or by zeros; E and, for MOVBSZ, N are 0, V and C are kept (R353, R354); where the destination is PSW the flags
are lost (R359). -/
def Obligations.MoveByteResult : Prop :=
  (∀ (i : Instr) (dst : Loc) (src : Src 8) (s : State),
     moveByteForm i = some (dst, src) → BankInRam s → sourceStop .byte src s = none →
     let pa := effAddr dst .byte s
     let v := (sourceB src s).1
     let u := incremented dst .byte (putB pa v (decremented dst .byte (sourceB src s).2))
     writeStop .byte pa (wordOfByte pa.toNat v) s = none →
     (∀ n, dst = .indInc n → BankInRam (putB pa v (decremented dst .byte (sourceB src s).2))) →
     exec i s =
       .next ((if classify s.cfg pa = .core .psw then u else u.setFlags (moveFlags v s.flags)).advance i.length)) ∧
  (∀ (i : Instr) (x : Extension) (dst : Loc) (src : Src 8) (s : State),
     extendForm i = some (x, dst, src) → BankInRam s → sourceStop .byte src s = none →
     let pa := effAddr dst .word s
     let b := (sourceB src s).1
     let r : Word := if x = .sign then b.signExtend 16 else b.setWidth 16
     let f : Flags := { s.flags with e := false, z := decide (b = 0), n := decide (x = .sign) && b.msb }
     let u := putW pa r (sourceB src s).2
     writeStop .word pa r s = none →
     exec i s = .next ((if classify s.cfg pa = .core .psw then u else u.setFlags f).advance i.length))

/-- What a move leaves unchanged: everything but IP, the flags, the destination, the pointers of `[Rw+]` and `[-Rw]`, and
MDRIU; or it was undone by a class B event (47_data_move.md R351 to R354). A destination `[Rw_n+]` that writes CP is not
covered: the bank moves under its pointer. -/
def Obligations.MoveFrame : Prop :=
  ∀ (i : Instr) (s t : State), BankInRam s → exec i s = .next t →
    (∀ dst src, moveWordForm i = some (dst, src) →
      (∀ n, dst = .indInc n → classify s.cfg (effAddr dst .word s) ≠ .core .cp) →
      trapped s t ∨ OnlyWrites .word (some (effAddr dst .word s)) (dst.pointer ++ src.pointer) s t) ∧
    (∀ dst src, moveByteForm i = some (dst, src) →
      (∀ n, dst = .indInc n → classify s.cfg (effAddr dst .byte s) ≠ .core .cp) →
      trapped s t ∨ OnlyWrites .byte (some (effAddr dst .byte s)) (dst.pointer ++ src.pointer) s t) ∧
    (∀ x dst src, extendForm i = some (x, dst, src) →
      trapped s t ∨ OnlyWrites .word (some (effAddr dst .word s)) [] s t)

/-- PUSH, POP and SCXT: PUSH reads its operand before SP moves; POP writes its operand after SP has moved, so that a
popped SP stands, and so does a popped PSW; SCXT reads both operands, pushes the first, writes it, and changes no flag (47_data_move.md R355 to
R357; 20_memory.md R68, R75). -/
def Obligations.StackMoveResult : Prop :=
  ∀ (s : State) (r : Byte),
    (let ra := regAddr r .word s
     let v := (loadedW ra s).1
     let p := pushed v (loadedW ra s).2
     accessStop .word ra s.cfg = none → pushStop v s = none →
      exec (.push r) s = .next ((p.setFlags (moveFlags v p.flags)).advance 2)) ∧
    (let v := (popped s).1
     let u := (popped s).2
     popStop s = none → writeStop .word (regAddr r .word s) v s = none →
      let t := putW (regAddr r .word s) v u
      exec (.pop r) s =
        .next ((if classify s.cfg (regAddr r .word s) = .core .psw then t
          else t.setFlags (moveFlags v u.flags)).advance 2)) ∧
    (∀ (i : Instr) (src : Src 16),
      ((∃ d, i = .scxtRegData16 r d ∧ src = .imm d) ∨ (∃ a, i = .scxtRegMem r a ∧ src = .loc (.mem a))) →
      let ra := regAddr r .word s
      let old := (loadedW ra s).1
      let v := (sourceW src (loadedW ra s).2).1
      let p := pushed old (sourceW src (loadedW ra s).2).2
      accessStop .word ra s.cfg = none → sourceStop .word src s = none → pushStop old s = none →
      writeStop .word (regAddr r .word p) v p = none →
      exec i s = .next ((putW (regAddr r .word p) v p).advance 4))

/-- A push into RAM: SP goes down by 2, the WORD lies at the new SP, every other byte is as it was, and StackOverflow is
requested if the new SP is below STKOV (20_memory.md R75; 60_exceptions.md R409). A pop from RAM is its inverse, and
StackUnderflow is requested if the new SP is above STKUN. -/
def Obligations.PushPopEffect : Prop :=
  ∀ (s : State) (v : Word), s.mem.wf = true →
    (StackRoom 1 s →
      pushStop v s = none ∧ (pushed v s).sp = s.sp - 2 ∧ stackWord 0 (pushed v s) = v ∧
      (∀ a, a ≠ s.sp.toNat - 2 → a ≠ s.sp.toNat - 1 → (pushed v s).mem.get a = s.mem.get a) ∧
      (pushed v s).pending =
        { s.pending with stackOverflow := s.pending.stackOverflow || decide (s.sp - 2 < s.stkov) } ∧
      (popped (pushed v s)).1 = v ∧ (popped (pushed v s)).2.sp = s.sp) ∧
    (StackHolds 1 s →
      popStop s = none ∧ (popped s).1 = stackWord 0 s ∧ (popped s).2.sp = s.sp + 2 ∧ (popped s).2.mem = s.mem ∧
      (popped s).2.pending =
        { s.pending with stackUnderflow := s.pending.stackUnderflow || decide (s.stkun < s.sp + 2) })

/-- What PUSH, CALLA, CALLI, CALLR, CALLS, PCALL and TRAP leave unchanged when the stack lies in RAM: SP, IP, CSP, the
flags, MDRIU, the stack-limit request with its TFR bit, the note of a TRAP's frame, and the bytes below SP that are pushed may change, nothing else
(20_memory.md R75; 44_call_jump_return.md R272 to R275, R284, R289; 47_data_move.md R356). -/
def Obligations.PushFrame : Prop :=
  ∀ (i : Instr) (s t : State), i.mnemonic ∈ [.push, .calla, .calli, .callr, .calls, .pcall, .trap] →
    BankInRam s → StackRoom 3 s → exec i s = .next t → ¬ trapped s t →
    t = { s with
      sp := t.sp, ip := t.ip, csp := t.csp, psw := t.psw, mdc := t.mdc, draws := t.draws, pending := t.pending,
      tfr := t.tfr, mem := t.mem, changed := t.changed, frames := t.frames } ∧
    (∃ f, t.psw = withFlags s.cfg.psw s.psw f) ∧ (i.mnemonic ≠ .trap → t.frames = s.frames) ∧ t.mdc &&& 0xFFEF = s.mdc &&& 0xFFEF ∧
    t.pending = { s.pending with stackOverflow := t.pending.stackOverflow } ∧
    (i.mnemonic ≠ .push → i.mnemonic ≠ .pcall → t.psw = s.psw) ∧
    (i.mnemonic ≠ .calls → i.mnemonic ≠ .trap → t.csp = s.csp) ∧
    ∀ a, (a < t.sp.toNat ∨ s.sp.toNat ≤ a) → t.mem.get a = s.mem.get a

/-! ## Control flow -/

/-- The jumps (44_call_jump_return.md R271, R278 to R281): IP, and for JMPS CSP, change and nothing else; a register target
is the register's content. -/
def Obligations.JumpResult : Prop :=
  ∀ (s : State) (cc : Cond) (a : Word) (rel sg : Byte) (n : BitVec 4),
    exec (.jmpa cc a) s = .next { s with ip := if condHolds s.flags cc then a else s.ip + 4 } ∧
    exec (.jmpr cc rel) s =
      .next { s with ip := if condHolds s.flags cc then s.ip + 2 + 2 * rel.signExtend 16 else s.ip + 2 } ∧
    exec (.jmps sg a) s = .next { s with csp := maskSeg s.cfg.device (sg.setWidth 16), ip := a } ∧
    (BankInRam s →
      exec (.jmpi cc n) s = .next { s with ip := if condHolds s.flags cc then gprWord n s else s.ip + 2 })

/-- The sixteen conditions (R270): the number of each, and its predicate over the flags; after CMP the signed and
unsigned ones compare op1 with op2. -/
def Obligations.ConditionRule : Prop :=
  (∀ cc : BitVec 4, Cond.ofBits cc =
    [Cond.uc, .net, .z, .nz, .v, .nv, .n, .nn, .c, .nc, .sgt, .sle, .slt, .sge, .ugt, .ule].getD cc.toNat .uc) ∧
  (∀ f : Flags,
    condHolds f .uc = true ∧ condHolds f .net = !(f.z || f.e) ∧ condHolds f .z = f.z ∧ condHolds f .nz = !f.z ∧
    condHolds f .v = f.v ∧ condHolds f .nv = !f.v ∧ condHolds f .n = f.n ∧ condHolds f .nn = !f.n ∧
    condHolds f .c = f.c ∧ condHolds f .nc = !f.c ∧ condHolds f .sgt = !(f.z || (f.n ^^ f.v)) ∧
    condHolds f .sle = (f.z || (f.n ^^ f.v)) ∧ condHolds f .slt = (f.n ^^ f.v) ∧ condHolds f .sge = !(f.n ^^ f.v) ∧
    condHolds f .ugt = !(f.z || f.c) ∧ condHolds f .ule = (f.z || f.c)) ∧
  (∀ a b : Word,
    let f := (subFlags a b false).2
    (condHolds f .sgt = true ↔ b.toInt < a.toInt) ∧ (condHolds f .sge = true ↔ b.toInt ≤ a.toInt) ∧
    (condHolds f .slt = true ↔ a.toInt < b.toInt) ∧ (condHolds f .sle = true ↔ a.toInt ≤ b.toInt) ∧
    (condHolds f .ugt = true ↔ b.toNat < a.toNat) ∧ (condHolds f .ule = true ↔ a.toNat ≤ b.toNat) ∧
    (condHolds f .c = true ↔ a.toNat < b.toNat) ∧ (condHolds f .z = true ↔ a = b))

/-- JB, JNB, JBC and JNBS (R276, R277, R282, R283): the bit is tested; JBC clears it and JNBS sets it when the jump is
taken; these two write Z and N from the tested bit either way. What becomes of E, V and C is the parameter `BITJUMP_EVC`
(R283, D13 between two readings of the source): cleared, unchanged, or free values. That the default is `cleared` is a
choice (log entry 20). -/
def Obligations.BitJumpResult : Prop :=
  ∀ (s : State) (b : BitAddr) (rel : Byte),
    let pa := bitWordAddr b.word s
    let w := (loadedW pa s).1
    let u := (loadedW pa s).2
    let x := bitJumpFlags (bitAt w b.bit) u
    let f := x.2.setFlags x.1
    let target := s.ip + 4 + 2 * rel.signExtend 16
    accessStop .word pa s.cfg = none →
    exec (.jb b rel) s = .next { u with ip := if bitAt w b.bit then target else s.ip + 4 } ∧
    exec (.jnb b rel) s = .next { u with ip := if bitAt w b.bit then s.ip + 4 else target } ∧
    (bitAt w b.bit = false → exec (.jbc b rel) s = .next (f.advance 4)) ∧
    (bitAt w b.bit = true → exec (.jnbs b rel) s = .next (f.advance 4)) ∧
    (bitAt w b.bit = true → writeStop .word pa (withBitAt w b.bit false) s = none →
      exec (.jbc b rel) s = .next ((putW pa (withBitAt w b.bit false) f).jumpTo target)) ∧
    (bitAt w b.bit = false → writeStop .word pa (withBitAt w b.bit true) s = none →
      exec (.jnbs b rel) s = .next ((putW pa (withBitAt w b.bit true) f).jumpTo target)) ∧
    x.1.z = !bitAt w b.bit ∧ x.1.n = bitAt w b.bit ∧
    (s.cfg.bitJumpEvc = .cleared → x.1.e = false ∧ x.1.v = false ∧ x.1.c = false ∧ x.2 = u) ∧
    (s.cfg.bitJumpEvc = .unchanged → x.1.e = u.flags.e ∧ x.1.v = u.flags.v ∧ x.1.c = u.flags.c ∧ x.2 = u) ∧
    x.2 = { u with draws := x.2.draws }

/-- The calls (R272 to R275, R284): the address of the next instruction is pushed, before it CSP by CALLS and the operand
by PCALL; a condition that does not hold makes CALLA and CALLI advance only. -/
def Obligations.CallResult : Prop :=
  ∀ (s : State) (cc : Cond) (a : Word) (rel sg r : Byte) (n : BitVec 4),
    (condHolds s.flags cc = false →
      exec (.calla cc a) s = .next (s.advance 4) ∧ exec (.calli cc n) s = .next (s.advance 2)) ∧
    (condHolds s.flags cc = true →
      (pushStop (s.ip + 4) s = none → exec (.calla cc a) s = .next ((pushed (s.ip + 4) s).jumpTo a)) ∧
      (BankInRam s → pushStop (s.ip + 2) s = none →
        exec (.calli cc n) s = .next ((pushed (s.ip + 2) s).jumpTo (gprWord n s)))) ∧
    (pushStop (s.ip + 2) s = none →
      exec (.callr rel) s = .next ((pushed (s.ip + 2) s).jumpTo (s.ip + 2 + 2 * rel.signExtend 16))) ∧
    (let p := pushed s.csp s
     pushStop s.csp s = none → pushStop (s.ip + 4) p = none →
      exec (.calls sg a) s =
        .next { pushed (s.ip + 4) p with csp := maskSeg s.cfg.device (sg.setWidth 16), ip := a }) ∧
    (let v := (loadedW (regAddr r .word s) s).1
     let p := pushed v (loadedW (regAddr r .word s) s).2
     let q := pushed (s.ip + 4) p
     accessStop .word (regAddr r .word s) s.cfg = none → pushStop v s = none → pushStop (s.ip + 4) p = none →
      exec (.pcall r a) s = .next ((q.setFlags (moveFlags v q.flags)).jumpTo a))

/-- RET, RETS and RETP (R285, R287, R288): IP is popped, then CSP by RETS, of which the segment bits are kept, or the
operand by RETP, whose flags are those of a move. -/
def Obligations.ReturnResult : Prop :=
  ∀ (s : State) (r : Byte), popStop s = none →
    let x := popped s
    let y := popped x.2
    exec .ret s = .next (x.2.jumpTo x.1) ∧
    (popStop x.2 = none →
      exec .rets s = .next { y.2 with ip := x.1, csp := maskSeg s.cfg.device y.1 } ∧
      (writeStop .word (regAddr r .word s) y.1 s = none →
        exec (.retp r) s =
          .next ((putW (regAddr r .word s) y.1 (y.2.setFlags (moveFlags y.1 y.2.flags))).jumpTo x.1)))

/-! ## Sequences and system control -/

/-- ATOMIC and the EXTx instructions outside a sequence: they set the count to `irang2 + 1`, their override, and nothing
else but IP; a register operand is read once, now. Inside a sequence they are refused (42_atomic_ext.md R220 to R227). -/
def Obligations.SequenceResult : Prop :=
  ∀ (s : State) (g : BitVec 2) (m : BitVec 4) (p : BitVec 10) (sg : Byte),
    let k := g.toNat + 1
    (s.seq.count = 0 →
      exec (.atomic g) s = .next { s with seq := { count := k }, ip := s.ip + 2 } ∧
      exec (.extr g) s = .next { s with seq := { count := k, esfr := true }, ip := s.ip + 2 } ∧
      exec (.extpPag p g) s = .next { s with seq := { count := k, page := some p }, ip := s.ip + 4 } ∧
      exec (.extprPag p g) s = .next { s with seq := { count := k, page := some p, esfr := true }, ip := s.ip + 4 } ∧
      exec (.extsSeg sg g) s = .next { s with seq := { count := k, seg := some sg }, ip := s.ip + 4 } ∧
      exec (.extsrSeg sg g) s = .next { s with seq := { count := k, seg := some sg, esfr := true }, ip := s.ip + 4 } ∧
      (BankInRam s →
        let page := (gprWord m s).extractLsb' 0 10
        let seg := (maskSeg s.cfg.device (gprWord m s)).extractLsb' 0 8
        exec (.extpRw m g) s = .next { s with seq := { count := k, page := some page }, ip := s.ip + 2 } ∧
        exec (.extprRw m g) s = .next { s with seq := { count := k, page := some page, esfr := true }, ip := s.ip + 2 } ∧
        exec (.extsRw m g) s = .next { s with seq := { count := k, seg := some seg }, ip := s.ip + 2 } ∧
        exec (.extsrRw m g) s = .next { s with seq := { count := k, seg := some seg, esfr := true }, ip := s.ip + 2 })) ∧
    (s.seq.count ≠ 0 →
      (∀ i ∈ [Instr.atomic g, .extr g, .extpPag p g, .extprPag p g, .extsSeg sg g, .extsrSeg sg g],
        exec i s = .refused .nestedSequence) ∧
      (BankInRam s → ∀ i ∈ [Instr.extpRw m g, .extprRw m g, .extsRw m g, .extsrRw m g],
        exec i s = .refused .nestedSequence))

/-- The system instructions (45_system.md R311 to R317): what each changes, and nothing else. IDLE and PWRDN are refused
inside a sequence (42_atomic_ext.md R227 b); PWRDN with NMI# high only advances. -/
def Obligations.SystemResult : Prop :=
  ∀ s : State,
    exec .nop s = .next { s with ip := s.ip + 2 } ∧
    exec .diswdt s = .next { s with wdtEnabled := s.wdtEnabled && !s.wdtOpen, ip := s.ip + 4 } ∧
    exec .einit s = .next { s with initDone := true, wdtOpen := false, ip := s.ip + 4 } ∧
    exec .srvwdt s =
      .next { s with wdt := s.wdtcon.extractLsb' 8 8 ++ (0 : Byte), wdtOpen := false, ip := s.ip + 4 } ∧
    exec .srst s = .next (s.resetBy .software) ∧
    (s.seq.count = 0 →
      exec .idle s = .next { s with runState := .idle, ip := s.ip + 4 } ∧
      exec .pwrdn s =
        .next { s with runState := if s.nmiPin then s.runState else .powerDown, ip := s.ip + 4 }) ∧
    (s.seq.count ≠ 0 → exec .idle s = .refused .waitInSequence ∧ exec .pwrdn s = .refused .waitInSequence)

/-! ## Multiply and divide -/

/-- MUL and MULU: MD is the whole product, V says that it does not fit 16 bits, MDC takes a free value, and nothing else
but the flags and IP changes (46_mul_div.md R335, R336, R337; 10_state.md R30). -/
def Obligations.MultiplyResult : Prop :=
  ∀ (s : State) (n m : BitVec 4), BankInRam s →
    (let p := (gprWord n s).toInt * (gprWord m s).toInt
     ∃ mdc d, exec (.mulRwRw n m) s = .next { s with
       mdh := (BitVec.ofInt 32 p).extractLsb' 16 16, mdl := (BitVec.ofInt 32 p).extractLsb' 0 16, mdc := mdc, draws := d,
       psw := withFlags s.cfg.psw s.psw ⟨false, decide (p = 0), decide (p < -32768 ∨ 32767 < p), false, decide (p < 0)⟩,
       ip := s.ip + 2 }) ∧
    (let p := (gprWord n s).toNat * (gprWord m s).toNat
     ∃ mdc d, exec (.muluRwRw n m) s = .next { s with
       mdh := (BitVec.ofNat 32 p).extractLsb' 16 16, mdl := (BitVec.ofNat 32 p).extractLsb' 0 16, mdc := mdc, draws := d,
       psw := withFlags s.cfg.psw s.psw ⟨false, decide (p = 0), decide (0xFFFF < p), false, decide (2 ^ 31 ≤ p)⟩,
       ip := s.ip + 2 })

/-- DIV, DIVU, DIVL, DIVLU: where the quotient fits 16 bits MDL is the quotient and MDH the remainder, with E, V, C 0 and
Z, N those of the quotient; a zero divisor or a quotient that does not fit sets V and leaves MDL, MDH, Z, N free. With
`DIV_ROUNDING = draw` quotient and remainder are free too where they depend on the rounding. MDC takes a free value, and
nothing else but IP changes (R331 to R334, R337, R338; 10_state.md R30). -/
def Obligations.DivideResult : Prop :=
  ∀ (s : State) (n : BitVec 4) (i : Instr) (result : Option (Word × Word)) (rounded : Prop), BankInRam s →
    (let d := gprWord n s
     let long := s.mdh ++ s.mdl
     i = .div n ∧ result = quotSigned16 s.mdh s.mdl d ∧
         rounded = (s.mdl.toInt * d.toInt < 0 ∧ ¬ d.toInt ∣ s.mdl.toInt) ∨
       i = .divu n ∧ result = quotUnsigned16 s.mdh s.mdl d ∧ rounded = False ∨
       i = .divl n ∧ result = quotSigned32 s.mdh s.mdl d ∧
         rounded = (long.toInt * d.toInt < 0 ∧ ¬ d.toInt ∣ long.toInt) ∨
       i = .divlu n ∧ result = quotUnsigned32 s.mdh s.mdl d ∧ rounded = False) →
    (∀ q r, result = some (q, r) → s.cfg.divRounding = .truncate ∨ ¬ rounded → ∃ mdc d, exec i s = .next { s with
      mdl := q, mdh := r, mdc := mdc, draws := d,
      psw := withFlags s.cfg.psw s.psw ⟨false, decide (q = 0), false, false, q.msb⟩, ip := s.ip + 2 }) ∧
    (result ≠ none → s.cfg.divRounding = .draw → rounded → ∃ q r mdc d, exec i s = .next { s with
      mdl := q, mdh := r, mdc := mdc, draws := d,
      psw := withFlags s.cfg.psw s.psw ⟨false, decide (q = 0), false, false, q.msb⟩, ip := s.ip + 2 }) ∧
    (result = none → ∃ mdh mdl mdc d z neg, exec i s = .next { s with
      mdl := mdl, mdh := mdh, mdc := mdc, draws := d,
      psw := withFlags s.cfg.psw s.psw ⟨false, z, true, false, neg⟩, ip := s.ip + 2 })

/-- The quotients: rounded toward zero, the remainder with the dividend's sign and below the divisor; none for a zero
divisor or a quotient that does not fit, -32768 to 32767 for DIV and DIVL, 0 to 65535 for DIVU and DIVLU (R331 to R334,
R338). The rounding of the signed ones is a choice, `DIV_ROUNDING = truncate` (D11, log entry 15). -/
def Obligations.DivideValues : Prop :=
  (∀ (mdh mdl d q r : Word),
    (quotSigned16 mdh mdl d = some (q, r) →
      mdl.toInt = q.toInt * d.toInt + r.toInt ∧ r.toInt.natAbs < d.toInt.natAbs ∧ 0 ≤ r.toInt * mdl.toInt) ∧
    (quotSigned32 mdh mdl d = some (q, r) →
      (mdh ++ mdl).toInt = q.toInt * d.toInt + r.toInt ∧ r.toInt.natAbs < d.toInt.natAbs ∧
        0 ≤ r.toInt * (mdh ++ mdl).toInt) ∧
    (quotUnsigned16 mdh mdl d = some (q, r) →
      mdl.toNat = q.toNat * d.toNat + r.toNat ∧ r.toNat < d.toNat) ∧
    (quotUnsigned32 mdh mdl d = some (q, r) →
      (mdh ++ mdl).toNat = q.toNat * d.toNat + r.toNat ∧ r.toNat < d.toNat)) ∧
  (∀ mdh mdl d : Word,
    (quotSigned16 mdh mdl d = none ↔ d = 0 ∨ (mdl = 0x8000 ∧ d = 0xFFFF)) ∧
    (quotSigned32 mdh mdl d = none ↔
      d = 0 ∨ (mdh ++ mdl).toInt.tdiv d.toInt < -32768 ∨ 32767 < (mdh ++ mdl).toInt.tdiv d.toInt) ∧
    (quotUnsigned16 mdh mdl d = none ↔ d = 0) ∧
    (quotUnsigned32 mdh mdl d = none ↔ d = 0 ∨ d.toNat ≤ mdh.toNat))

/-! ## Accesses -/

/-- When a WORD or a BYTE access completes (20_memory.md R64 to R67): a WORD at an odd address traps, an absent address is
refused; a write to ROM is refused, CSP refuses every value, SYSCON every value after EINIT, PSW one with MULIP = 1; nothing
else stops. A BYTE access has no alignment, and a BYTE written to a core register gives it the WORD with the other byte 0.
That an odd WORD address traps even where nothing stands at it is the model's choice (log entry 49). -/
def Obligations.AccessStops : Prop :=
  (∀ (pa : PhysAddr) (v : Word) (s : State),
    (pa.getLsbD 0 = true → memReadW pa s = .error (.trap (.illegalWordOperandAccess pa)) ∧
      memWriteW pa v s = .error (.trap (.illegalWordOperandAccess pa))) ∧
    (pa.getLsbD 0 = false →
      (classify s.cfg pa = .absent → memReadW pa s = .error (.refuse (.absentAddress pa)) ∧
        memWriteW pa v s = .error (.refuse (.absentAddress pa))) ∧
      (classify s.cfg pa ≠ .absent → memReadW pa s = .ok (loadedW pa s)) ∧
      (classify s.cfg pa = .rom → memWriteW pa v s = .error (.refuse (.romWrite pa))) ∧
      (classify s.cfg pa = .ram ∨ classify s.cfg pa = .platform → memWriteW pa v s = .ok (storedW pa v s)) ∧
      (classify s.cfg pa = .core .csp → memWriteW pa v s = .error (.refuse .cspWrite)) ∧
      (classify s.cfg pa = .core .syscon → s.initDone = true → memWriteW pa v s = .error (.refuse .sysconLocked)) ∧
      (classify s.cfg pa = .core .psw → v.getLsbD s.cfg.psw.mulip.toNat = true →
        memWriteW pa v s = .error (.refuse .mulipWrite)) ∧
      (∀ r, classify s.cfg pa = .core r → r ≠ .csp → (r = .syscon → s.initDone = false) →
        (r = .psw → v.getLsbD s.cfg.psw.mulip.toNat = false) → memWriteW pa v s = .ok (storedCore r v s)))) ∧
  (∀ (pa : PhysAddr) (v : Byte) (s : State),
    let w : Word := if pa.getLsbD 0 then v ++ (0 : Byte) else (0 : Byte) ++ v
    (classify s.cfg pa = .absent → memReadB pa s = .error (.refuse (.absentAddress pa)) ∧
      memWriteB pa v s = .error (.refuse (.absentAddress pa))) ∧
    (classify s.cfg pa ≠ .absent → memReadB pa s = .ok (loadedB pa s)) ∧
    (classify s.cfg pa = .rom → memWriteB pa v s = .error (.refuse (.romWrite pa))) ∧
    (classify s.cfg pa = .ram ∨ classify s.cfg pa = .platform → memWriteB pa v s = .ok (storedB pa v s)) ∧
    (classify s.cfg pa = .core .csp → memWriteB pa v s = .error (.refuse .cspWrite)) ∧
    (classify s.cfg pa = .core .syscon → s.initDone = true → memWriteB pa v s = .error (.refuse .sysconLocked)) ∧
    (classify s.cfg pa = .core .psw → w.getLsbD s.cfg.psw.mulip.toNat = true →
      memWriteB pa v s = .error (.refuse .mulipWrite)) ∧
    (∀ r, classify s.cfg pa = .core r → r ≠ .csp → (r = .syscon → s.initDone = false) →
      (r = .psw → w.getLsbD s.cfg.psw.mulip.toNat = false) → memWriteB pa v s = .ok (storedCore r w s)))

/-- RAM: a stored WORD or BYTE is read back, low byte first, and no other byte changes (R62, R63, R66, R67). A store that
changes a byte notes its address, so that the fetch refuses it where `SELF_MODIFYING_CODE = refuse`, and one that does not
notes nothing (R81; how they are noted is the model's choice, log entry 14). -/
def Obligations.RamAccess : Prop :=
  ∀ (pa : PhysAddr) (s : State), classify s.cfg pa = .ram → s.mem.wf = true →
    (∀ (v : Word) (t : State), memWriteW pa v s = .ok t →
      memReadW pa t = .ok (v, t) ∧ t.mem.get pa.toNat = v.extractLsb' 0 8 ∧ t.mem.get (pa.toNat + 1) = v.extractLsb' 8 8 ∧
      (∀ a, a ≠ pa.toNat → a ≠ pa.toNat + 1 → t.mem.get a = s.mem.get a) ∧ t.mem.wf = true ∧
      t = { s with mem := t.mem, changed := t.changed } ∧
      (∀ a, a ∈ t.changed ↔ a ∈ s.changed ∨ t.mem.get a ≠ s.mem.get a)) ∧
    (∀ (v : Byte) (t : State), memWriteB pa v s = .ok t →
      memReadB pa t = .ok (v, t) ∧ (∀ a, a ≠ pa.toNat → t.mem.get a = s.mem.get a) ∧ t.mem.wf = true ∧
      t = { s with mem := t.mem, changed := t.changed } ∧
      (∀ a, a ∈ t.changed ↔ a ∈ s.changed ∨ t.mem.get a ≠ s.mem.get a))

/-- The core registers (R66, R67; 10_state.md R33): what a WORD written to each reads back as, and that a BYTE written to
one clears its other byte. A write of MDL or MDH sets MDC.MDRIU, a read of MDL clears it, and no other read or write of a
register but MDC does (10_state.md R30). A read of WDT is the count where it is known, else a free value (60_exceptions.md
R424). PSW (R27; the places are a choice, log entry 6): by default N 0, C 1, V 2, Z 3, E 4, MULIP 5, IEN 11, ILVL 15..12,
with 9..7 reserved; in every layout the flags and the level written are read back and every other bit is kept. -/
def Obligations.CoreRegisterAccess : Prop :=
  (∀ (r : CoreReg) (v : Word) (s t : State), storeCore r v s = .ok t → r ≠ .wdt →
    (loadCore r t).1 =
      (match r with
        | .cp => v &&& 0xFFFE
        | .sp => v &&& 0xFFFE
        | .stkov => v &&& 0xFFFE
        | .stkun => v &&& 0xFFFE
        | .dpp _ => v &&& 0x03FF
        | .psw => v &&& ~~~s.cfg.psw.reserved
        | .zeros => 0x0000
        | .ones => 0xFFFF
        | _ => v)) ∧
  (∀ (v : Word) (s t : State), storeCore .wdt v s = .ok t → t = s) ∧
  (∀ (pa : PhysAddr) (r : CoreReg) (v : Byte) (s t : State), classify s.cfg pa = .core r → memWriteB pa v s = .ok t →
    t = storedCore r (if pa.getLsbD 0 then v ++ (0 : Byte) else (0 : Byte) ++ v) s) ∧
  (∀ (r : CoreReg) (v : Word) (s t : State), storeCore r v s = .ok t → r ≠ .mdc →
    (r = .mdl ∨ r = .mdh → t.mdc.getLsbD 4 = true ∧ ∀ j, j ≠ 4 → t.mdc.getLsbD j = s.mdc.getLsbD j) ∧
    (r ≠ .mdl → r ≠ .mdh → t.mdc = s.mdc)) ∧
  (∀ (r : CoreReg) (s : State),
    (r = .mdl → (loadCore r s).2.mdc.getLsbD 4 = false ∧
      ∀ j, j ≠ 4 → (loadCore r s).2.mdc.getLsbD j = s.mdc.getLsbD j) ∧
    (r ≠ .mdl → (loadCore r s).2.mdc = s.mdc)) ∧
  (∀ s : State,
    (s.wdtExact = true ∨ s.cfg.wdtRate ≠ none → loadCore .wdt s = (s.wdt, s)) ∧
    (s.wdtExact = false → s.cfg.wdtRate = none →
      ∃ w, loadCore .wdt s = (w, { s with draws := s.draws + 1 }))) ∧
  (∀ (w : Word),
    let l : PswLayout := {}
    flagsOf l w = ⟨w.getLsbD 4, w.getLsbD 3, w.getLsbD 2, w.getLsbD 1, w.getLsbD 0⟩ ∧ l.mulip = 5 ∧
    ienOf l w = w.getLsbD 11 ∧ (ilvlOf l w).toNat = w.toNat / 4096 ∧ l.reserved = 0x0380 ∧ l.wf = true ∧
    (∀ f, withFlags l w f &&& 0xFFE0 = w &&& 0xFFE0)) ∧
  (∀ (l : PswLayout) (w : Word) (f : Flags) (level : BitVec 4) (j : Nat), l.wf = true → j < 16 →
    flagsOf l (withFlags l w f) = f ∧ ilvlOf l (withIlvl l w level) = level ∧
    (j ∉ [l.n.toNat, l.c.toNat, l.v.toNat, l.z.toNat, l.e.toNat] → (withFlags l w f).getLsbD j = w.getLsbD j) ∧
    (j < l.ilvl.toNat ∨ l.ilvl.toNat + 4 ≤ j → (withIlvl l w level).getLsbD j = w.getLsbD j))

/-- Register operands (20_memory.md R70, R71, R74; 10_state.md R21, R22): `reg` and `bitoff` 0xF0 to 0xFF are the general
registers at CP, `reg` below is the SFR at `SFR_BASE` + 2 * RR or, with the ESFR override, at `ESFR_BASE` + 2 * RR, `bitoff`
below 0x80 the RAM WORD at `BITRAM_BASE` + 2 * QQ and from 0x80 the SFR or ESFR from `BITSFR_BASE` or `BITESFR_BASE` on; the
defaults are 0xFE00, 0xF000, 0xFD00, 0xFF00, 0xF100 (log entry 5). The core registers by default (10_state.md R33): each at
its `reg` number, and at no other. -/
def Obligations.RegisterOperands : Prop :=
  (∀ (s : State) (r : Byte) (w : Width), s.cp.toNat + 31 < 65536 →
    let b := s.cfg.bases
    (r.toNat < 0xF0 → regAddr r w s = (if s.seq.esfr then b.esfr else b.sfr) + BitVec.ofNat 24 (2 * r.toNat)) ∧
    (0xF0 ≤ r.toNat →
      (regAddr r .word s).toNat = s.cp.toNat + 2 * (r.toNat - 0xF0) ∧
      (regAddr r .byte s).toNat = s.cp.toNat + (r.toNat - 0xF0) ∧
      (bitWordAddr r s).toNat = s.cp.toNat + 2 * (r.toNat - 0xF0)) ∧
    (r.toNat < 0x80 → bitWordAddr r s = b.bitRam + BitVec.ofNat 24 (2 * r.toNat)) ∧
    (0x80 ≤ r.toNat → r.toNat < 0xF0 →
      bitWordAddr r s = (if s.seq.esfr then b.bitEsfr else b.bitSfr) + BitVec.ofNat 24 (2 * (r.toNat - 0x80)))) ∧
  (let b : Bases := {}
   b.sfr = 0x00FE00 ∧ b.esfr = 0x00F000 ∧ b.bitRam = 0x00FD00 ∧ b.bitSfr = 0x00FF00 ∧ b.bitEsfr = 0x00F100) ∧
  (∀ (c : Config) (k : Nat) (r : CoreReg), c.bases = {} → c.sfrMap = defaultSfrMap → k < 0x100 →
    inFile c (BitVec.ofNat 24 (0xFE00 + 2 * k)) = false →
    (classify c (BitVec.ofNat 24 (0xFE00 + 2 * k)) = .core r ↔
      (k, r) ∈ [(0x00, CoreReg.dpp 0), (0x01, .dpp 1), (0x02, .dpp 2), (0x03, .dpp 3), (0x04, .csp), (0x06, .mdh),
        (0x07, .mdl), (0x08, .cp), (0x09, .sp), (0x0A, .stkov), (0x0B, .stkun), (0x57, .wdt), (0x87, .mdc), (0x88, .psw),
        (0x89, .syscon), (0x8E, .zeros), (0x8F, .ones), (0xD6, .tfr), (0xD7, .wdtcon)])) ∧
  (∀ (c : Config) (a : Nat), c.bases = {} → 0xF000 ≤ a → a < 0xF200 → inFile c (BitVec.ofNat 24 a) = false →
    classify c (BitVec.ofNat 24 a) =
      (if c.device.hasExt then .platform else mappedClass c.map a))
end

