-- ==== Sys2Proof/Laws/Memory.lean ====
section
/-! SUPPORT. The laws of memory: a read after a write, the canonical form kept, equal contents are equal lists. -/

namespace Sys2Proof.Machine

/-- The canonical form from a lower bound holds from any lower one. -/
theorem Memory.canonicalFrom_mono {lo lo' : Nat} (m : Memory) (h : lo' ≤ lo) (hm : m.canonicalFrom lo = true) :
    m.canonicalFrom lo' = true := by
  cases m with
  | nil => rfl
  | cons x m =>
    simp only [Memory.canonicalFrom, Bool.and_eq_true, decide_eq_true_eq] at hm ⊢
    exact ⟨⟨Nat.le_trans h hm.1.1, hm.1.2⟩, hm.2⟩

/-- A byte in front keeps the canonical form. -/
theorem Memory.canonicalFrom_cons {lo a : Nat} (v : Byte) (m : Memory) (h : lo ≤ a)
    (hm : m.canonicalFrom (a + 1) = true) : (Memory.cons a v m).canonicalFrom lo = true := by
  unfold Memory.cons
  split
  · exact m.canonicalFrom_mono (by omega) hm
  · rename_i hv
    simp [Memory.canonicalFrom, h, hv, hm]

/-- A store keeps the canonical form. -/
theorem Memory.canonicalFrom_set {lo a : Nat} (m : Memory) (v : Byte) (h : lo ≤ a) (hm : m.canonicalFrom lo = true) :
    (m.set a v).canonicalFrom lo = true := by
  induction m generalizing lo with
  | nil => exact Memory.canonicalFrom_cons v [] h rfl
  | cons x m ih =>
    have hx := hm
    simp only [Memory.canonicalFrom, Bool.and_eq_true, decide_eq_true_eq] at hx
    simp only [Memory.set]
    split
    · rename_i hlt
      refine Memory.canonicalFrom_cons v _ h ?_
      simp [Memory.canonicalFrom, hx.1.2, hx.2]
      omega
    · split
      · rename_i heq
        subst heq
        exact Memory.canonicalFrom_cons v m h hx.2
      · simp [Memory.canonicalFrom, hx.1.1, hx.1.2]
        exact ih (by omega) hx.2

/-- A store keeps the memory's canonical form. -/
theorem Memory.set_wf (m : Memory) (a : Nat) (v : Byte) (hm : m.wf = true) : (m.set a v).wf = true :=
  m.canonicalFrom_set v (Nat.zero_le a) hm

/-- Below the lowest listed address every byte is blank. -/
theorem Memory.get_below {lo a : Nat} (m : Memory) (hm : m.canonicalFrom lo = true) (h : a < lo) :
    m.get a = blankByte := by
  induction m generalizing lo with
  | nil => rfl
  | cons x m ih =>
    simp only [Memory.canonicalFrom, Bool.and_eq_true, decide_eq_true_eq] at hm
    have hne : a ≠ x.1 := by omega
    simp [Memory.get, hne, ih hm.2 (by omega)]

/-- The byte in front is read at its address. -/
theorem Memory.get_cons_same {a : Nat} (v : Byte) (m : Memory) (hm : m.canonicalFrom (a + 1) = true) :
    (Memory.cons a v m).get a = v := by
  unfold Memory.cons
  split
  · rename_i hv
    rw [hv]
    exact m.get_below hm (by omega)
  · simp [Memory.get]

/-- The byte in front is read nowhere else. -/
theorem Memory.get_cons_other {a b : Nat} (v : Byte) (m : Memory) (h : b ≠ a) :
    (Memory.cons a v m).get b = m.get b := by
  unfold Memory.cons
  split
  · rfl
  · simp [Memory.get, h]

/-- A read after a store to the same address gives the byte stored. -/
theorem Memory.get_set_same (m : Memory) (a : Nat) (v : Byte) (hm : m.wf = true) : (m.set a v).get a = v := by
  suffices h : ∀ lo, m.canonicalFrom lo = true → (m.set a v).get a = v from h 0 hm
  induction m with
  | nil => exact fun _ _ => Memory.get_cons_same v [] rfl
  | cons x m ih =>
    intro lo h
    have hx := h
    simp only [Memory.canonicalFrom, Bool.and_eq_true, decide_eq_true_eq] at hx
    simp only [Memory.set]
    split
    · rename_i hlt
      refine Memory.get_cons_same v _ ?_
      simp [Memory.canonicalFrom, hx.1.2, hx.2]
      omega
    · split
      · rename_i heq
        subst heq
        exact Memory.get_cons_same v m hx.2
      · rename_i hne
        simp only [Memory.get, if_neg hne]
        exact ih (Memory.canonicalFrom_mono m (Nat.zero_le _) hx.2) (x.1 + 1) hx.2

/-- A store leaves every other byte as it was. -/
theorem Memory.get_set_other (m : Memory) {a b : Nat} (v : Byte) (h : b ≠ a) : (m.set a v).get b = m.get b := by
  induction m with
  | nil => exact Memory.get_cons_other v [] h
  | cons x m ih =>
    simp only [Memory.set]
    split
    · exact Memory.get_cons_other v _ h
    · split
      · rename_i heq
        subst heq
        rw [Memory.get_cons_other v m h]
        simp [Memory.get, h]
      · simp only [Memory.get]
        split
        · rfl
        · exact ih

/-- A WORD stored low byte first is read back (20_memory.md R63). -/
theorem Memory.getWord_set_same (m : Memory) (a : Nat) (v : Word) (hm : m.wf = true) :
    ((m.set a (v.extractLsb' 0 8)).set (a + 1) (v.extractLsb' 8 8)).getWord a = v := by
  have h1 := m.set_wf a (v.extractLsb' 0 8) hm
  rw [Memory.getWord, Memory.get_set_same _ _ _ h1, Memory.get_set_other _ _ (by omega), Memory.get_set_same _ _ _ hm]
  ext i hi
  rw [BitVec.getElem_append]
  split
  · simp [BitVec.getLsbD_eq_getElem hi]
  · have h8 : 8 + (i - 8) = i := by omega
    simp [h8, BitVec.getLsbD_eq_getElem hi]

/-- A stored WORD changes no byte but its two. -/
theorem Memory.get_setWord_other (m : Memory) {a b : Nat} (v : Word) (h : b ≠ a) (h' : b ≠ a + 1) :
    ((m.set a (v.extractLsb' 0 8)).set (a + 1) (v.extractLsb' 8 8)).get b = m.get b := by
  rw [Memory.get_set_other _ _ h', Memory.get_set_other _ _ h]

/-- A store adds no address but its own. -/
theorem Memory.mem_set (m : Memory) (a : Nat) (v : Byte) (c : Host.Cell) (h : c ∈ m.set a v) : c ∈ m ∨ c.1 = a := by
  have hcons : ∀ (m : Memory), c ∈ Memory.cons a v m → c ∈ m ∨ c.1 = a := by
    intro m h
    unfold Memory.cons at h
    split at h
    · exact .inl h
    · rcases List.mem_cons.1 h with rfl | h
      · exact .inr rfl
      · exact .inl h
  induction m with
  | nil => exact hcons [] h
  | cons x m ih =>
    simp only [Memory.set] at h
    split at h
    · exact hcons _ h
    · split at h
      · rcases hcons m h with h | h
        · exact .inl (List.mem_cons_of_mem _ h)
        · exact .inr h
      · rcases List.mem_cons.1 h with rfl | h
        · exact .inl (List.mem_cons_self ..)
        · rcases ih h with h | h
          · exact .inl (List.mem_cons_of_mem _ h)
          · exact .inr h

/-- Entries taken out leave the canonical form. -/
theorem Memory.canonicalFrom_filter {lo : Nat} (m : Memory) (p : Host.Cell → Bool) (hm : m.canonicalFrom lo = true) :
    Memory.canonicalFrom lo (m.filter p) = true := by
  induction m generalizing lo with
  | nil => rfl
  | cons x m ih =>
    simp only [Memory.canonicalFrom, Bool.and_eq_true, decide_eq_true_eq] at hm
    simp only [List.filter_cons]
    split
    · simp [Memory.canonicalFrom, hm.1.1, hm.1.2, ih hm.2]
    · exact ih (Memory.canonicalFrom_mono m (by omega) hm.2)

/-- A read skips the entries of other addresses that are taken out. -/
theorem Memory.get_filter (m : Memory) (p : Host.Cell → Bool) (a : Nat) (h : ∀ v, p (a, v) = true) :
    Memory.get (m.filter p) a = m.get a := by
  induction m with
  | nil => rfl
  | cons x m ih =>
    by_cases ha : a = x.1
    · have hp : p x = true := by
        rw [show x = (a, x.2) from Prod.ext ha.symm rfl]
        exact h x.2
      simp [hp, Memory.get, ha]
    · simp only [List.filter_cons]
      split
      · simp [Memory.get, ha, ih]
      · simp [Memory.get, ha, ih]

/-- Canonical memories that read the same at every address are equal. -/
theorem Memory.ext_get {lo : Nat} (m m' : Memory) (hm : m.canonicalFrom lo = true) (hm' : m'.canonicalFrom lo = true)
    (h : ∀ a, m.get a = m'.get a) : m = m' := by
  induction m generalizing lo m' with
  | nil =>
    cases m' with
    | nil => rfl
    | cons y m' =>
      simp only [Memory.canonicalFrom, Bool.and_eq_true, decide_eq_true_eq] at hm'
      have := h y.1
      simp [Memory.get] at this
      exact absurd this.symm hm'.1.2
  | cons x m ih =>
    simp only [Memory.canonicalFrom, Bool.and_eq_true, decide_eq_true_eq] at hm
    cases m' with
    | nil =>
      have := h x.1
      simp [Memory.get] at this
      exact absurd this hm.1.2
    | cons y m' =>
      simp only [Memory.canonicalFrom, Bool.and_eq_true, decide_eq_true_eq] at hm'
      have hxy : x.1 = y.1 := by
        rcases Nat.lt_trichotomy x.1 y.1 with hlt | heq | hgt
        · have := h x.1
          have hne : x.1 ≠ y.1 := by omega
          simp only [Memory.get, hne, Memory.get_below m' hm'.2 (show x.1 < y.1 + 1 by omega), if_true, if_false] at this
          exact absurd this hm.1.2
        · exact heq
        · have := h y.1
          have hne : y.1 ≠ x.1 := by omega
          simp only [Memory.get, hne, Memory.get_below m hm.2 (show y.1 < x.1 + 1 by omega), if_true, if_false] at this
          exact absurd this.symm hm'.1.2
      have hv : x.2 = y.2 := by
        have := h x.1
        simpa [Memory.get, hxy] using this
      have htail : m = m' := by
        refine ih m' hm.2 (by rw [hxy]; exact hm'.2) fun a => ?_
        by_cases ha : a = x.1
        · subst ha
          rw [Memory.get_below m hm.2 (by omega), Memory.get_below m' hm'.2 (by omega)]
        · have := h a
          simpa [Memory.get, ha, hxy ▸ ha] using this
      rw [htail, show x = y from Prod.ext hxy hv]

end Sys2Proof.Machine
end

