-- ==== Sys2Proof/Laws/State.lean ====
section
/-! SUPPORT. What each field of the state is after each named update. -/

namespace Sys2Proof.Machine

variable (s : State)

/-! ## `advance` -/

@[simp] theorem State.advance_cfg (len : Nat) : (s.advance len).cfg = s.cfg := rfl
@[simp] theorem State.advance_ip (len : Nat) : (s.advance len).ip = s.nextIp len := rfl
@[simp] theorem State.advance_csp (len : Nat) : (s.advance len).csp = s.csp := rfl
@[simp] theorem State.advance_cp (len : Nat) : (s.advance len).cp = s.cp := rfl
@[simp] theorem State.advance_sp (len : Nat) : (s.advance len).sp = s.sp := rfl
@[simp] theorem State.advance_stkov (len : Nat) : (s.advance len).stkov = s.stkov := rfl
@[simp] theorem State.advance_stkun (len : Nat) : (s.advance len).stkun = s.stkun := rfl
@[simp] theorem State.advance_psw (len : Nat) : (s.advance len).psw = s.psw := rfl
@[simp] theorem State.advance_mdh (len : Nat) : (s.advance len).mdh = s.mdh := rfl
@[simp] theorem State.advance_mdl (len : Nat) : (s.advance len).mdl = s.mdl := rfl
@[simp] theorem State.advance_mdc (len : Nat) : (s.advance len).mdc = s.mdc := rfl
@[simp] theorem State.advance_dpp0 (len : Nat) : (s.advance len).dpp0 = s.dpp0 := rfl
@[simp] theorem State.advance_dpp1 (len : Nat) : (s.advance len).dpp1 = s.dpp1 := rfl
@[simp] theorem State.advance_dpp2 (len : Nat) : (s.advance len).dpp2 = s.dpp2 := rfl
@[simp] theorem State.advance_dpp3 (len : Nat) : (s.advance len).dpp3 = s.dpp3 := rfl
@[simp] theorem State.advance_syscon (len : Nat) : (s.advance len).syscon = s.syscon := rfl
@[simp] theorem State.advance_tfr (len : Nat) : (s.advance len).tfr = s.tfr := rfl
@[simp] theorem State.advance_wdt (len : Nat) : (s.advance len).wdt = s.wdt := rfl
@[simp] theorem State.advance_wdtcon (len : Nat) : (s.advance len).wdtcon = s.wdtcon := rfl
@[simp] theorem State.advance_wdtEnabled (len : Nat) : (s.advance len).wdtEnabled = s.wdtEnabled := rfl
@[simp] theorem State.advance_wdtOpen (len : Nat) : (s.advance len).wdtOpen = s.wdtOpen := rfl
@[simp] theorem State.advance_wdtExact (len : Nat) : (s.advance len).wdtExact = s.wdtExact := rfl
@[simp] theorem State.advance_initDone (len : Nat) : (s.advance len).initDone = s.initDone := rfl
@[simp] theorem State.advance_runState (len : Nat) : (s.advance len).runState = s.runState := rfl
@[simp] theorem State.advance_nmiPin (len : Nat) : (s.advance len).nmiPin = s.nmiPin := rfl
@[simp] theorem State.advance_seq (len : Nat) : (s.advance len).seq = s.seq := rfl
@[simp] theorem State.advance_pending (len : Nat) : (s.advance len).pending = s.pending := rfl
@[simp] theorem State.advance_mem (len : Nat) : (s.advance len).mem = s.mem := rfl
@[simp] theorem State.advance_frames (len : Nat) : (s.advance len).frames = s.frames := rfl
@[simp] theorem State.advance_changed (len : Nat) : (s.advance len).changed = s.changed := rfl
@[simp] theorem State.advance_lastWrites (len : Nat) : (s.advance len).lastWrites = s.lastWrites := rfl
@[simp] theorem State.advance_pswBefore (len : Nat) : (s.advance len).pswBefore = s.pswBefore := rfl
@[simp] theorem State.advance_draws (len : Nat) : (s.advance len).draws = s.draws := rfl

/-! ## `jumpTo` -/

@[simp] theorem State.jumpTo_cfg (t : Word) : (s.jumpTo t).cfg = s.cfg := rfl
@[simp] theorem State.jumpTo_ip (t : Word) : (s.jumpTo t).ip = t := rfl
@[simp] theorem State.jumpTo_csp (t : Word) : (s.jumpTo t).csp = s.csp := rfl
@[simp] theorem State.jumpTo_cp (t : Word) : (s.jumpTo t).cp = s.cp := rfl
@[simp] theorem State.jumpTo_sp (t : Word) : (s.jumpTo t).sp = s.sp := rfl
@[simp] theorem State.jumpTo_stkov (t : Word) : (s.jumpTo t).stkov = s.stkov := rfl
@[simp] theorem State.jumpTo_stkun (t : Word) : (s.jumpTo t).stkun = s.stkun := rfl
@[simp] theorem State.jumpTo_psw (t : Word) : (s.jumpTo t).psw = s.psw := rfl
@[simp] theorem State.jumpTo_mdh (t : Word) : (s.jumpTo t).mdh = s.mdh := rfl
@[simp] theorem State.jumpTo_mdl (t : Word) : (s.jumpTo t).mdl = s.mdl := rfl
@[simp] theorem State.jumpTo_mdc (t : Word) : (s.jumpTo t).mdc = s.mdc := rfl
@[simp] theorem State.jumpTo_dpp0 (t : Word) : (s.jumpTo t).dpp0 = s.dpp0 := rfl
@[simp] theorem State.jumpTo_dpp1 (t : Word) : (s.jumpTo t).dpp1 = s.dpp1 := rfl
@[simp] theorem State.jumpTo_dpp2 (t : Word) : (s.jumpTo t).dpp2 = s.dpp2 := rfl
@[simp] theorem State.jumpTo_dpp3 (t : Word) : (s.jumpTo t).dpp3 = s.dpp3 := rfl
@[simp] theorem State.jumpTo_syscon (t : Word) : (s.jumpTo t).syscon = s.syscon := rfl
@[simp] theorem State.jumpTo_tfr (t : Word) : (s.jumpTo t).tfr = s.tfr := rfl
@[simp] theorem State.jumpTo_wdt (t : Word) : (s.jumpTo t).wdt = s.wdt := rfl
@[simp] theorem State.jumpTo_wdtcon (t : Word) : (s.jumpTo t).wdtcon = s.wdtcon := rfl
@[simp] theorem State.jumpTo_wdtEnabled (t : Word) : (s.jumpTo t).wdtEnabled = s.wdtEnabled := rfl
@[simp] theorem State.jumpTo_wdtOpen (t : Word) : (s.jumpTo t).wdtOpen = s.wdtOpen := rfl
@[simp] theorem State.jumpTo_wdtExact (t : Word) : (s.jumpTo t).wdtExact = s.wdtExact := rfl
@[simp] theorem State.jumpTo_initDone (t : Word) : (s.jumpTo t).initDone = s.initDone := rfl
@[simp] theorem State.jumpTo_runState (t : Word) : (s.jumpTo t).runState = s.runState := rfl
@[simp] theorem State.jumpTo_nmiPin (t : Word) : (s.jumpTo t).nmiPin = s.nmiPin := rfl
@[simp] theorem State.jumpTo_seq (t : Word) : (s.jumpTo t).seq = s.seq := rfl
@[simp] theorem State.jumpTo_pending (t : Word) : (s.jumpTo t).pending = s.pending := rfl
@[simp] theorem State.jumpTo_mem (t : Word) : (s.jumpTo t).mem = s.mem := rfl
@[simp] theorem State.jumpTo_frames (t : Word) : (s.jumpTo t).frames = s.frames := rfl
@[simp] theorem State.jumpTo_changed (t : Word) : (s.jumpTo t).changed = s.changed := rfl
@[simp] theorem State.jumpTo_lastWrites (t : Word) : (s.jumpTo t).lastWrites = s.lastWrites := rfl
@[simp] theorem State.jumpTo_pswBefore (t : Word) : (s.jumpTo t).pswBefore = s.pswBefore := rfl
@[simp] theorem State.jumpTo_draws (t : Word) : (s.jumpTo t).draws = s.draws := rfl

/-! ## `setFlags` -/

@[simp] theorem State.setFlags_cfg (f : Flags) : (s.setFlags f).cfg = s.cfg := rfl
@[simp] theorem State.setFlags_ip (f : Flags) : (s.setFlags f).ip = s.ip := rfl
@[simp] theorem State.setFlags_csp (f : Flags) : (s.setFlags f).csp = s.csp := rfl
@[simp] theorem State.setFlags_cp (f : Flags) : (s.setFlags f).cp = s.cp := rfl
@[simp] theorem State.setFlags_sp (f : Flags) : (s.setFlags f).sp = s.sp := rfl
@[simp] theorem State.setFlags_stkov (f : Flags) : (s.setFlags f).stkov = s.stkov := rfl
@[simp] theorem State.setFlags_stkun (f : Flags) : (s.setFlags f).stkun = s.stkun := rfl
@[simp] theorem State.setFlags_psw (f : Flags) : (s.setFlags f).psw = withFlags s.cfg.psw s.psw f := rfl
@[simp] theorem State.setFlags_mdh (f : Flags) : (s.setFlags f).mdh = s.mdh := rfl
@[simp] theorem State.setFlags_mdl (f : Flags) : (s.setFlags f).mdl = s.mdl := rfl
@[simp] theorem State.setFlags_mdc (f : Flags) : (s.setFlags f).mdc = s.mdc := rfl
@[simp] theorem State.setFlags_dpp0 (f : Flags) : (s.setFlags f).dpp0 = s.dpp0 := rfl
@[simp] theorem State.setFlags_dpp1 (f : Flags) : (s.setFlags f).dpp1 = s.dpp1 := rfl
@[simp] theorem State.setFlags_dpp2 (f : Flags) : (s.setFlags f).dpp2 = s.dpp2 := rfl
@[simp] theorem State.setFlags_dpp3 (f : Flags) : (s.setFlags f).dpp3 = s.dpp3 := rfl
@[simp] theorem State.setFlags_syscon (f : Flags) : (s.setFlags f).syscon = s.syscon := rfl
@[simp] theorem State.setFlags_tfr (f : Flags) : (s.setFlags f).tfr = s.tfr := rfl
@[simp] theorem State.setFlags_wdt (f : Flags) : (s.setFlags f).wdt = s.wdt := rfl
@[simp] theorem State.setFlags_wdtcon (f : Flags) : (s.setFlags f).wdtcon = s.wdtcon := rfl
@[simp] theorem State.setFlags_wdtEnabled (f : Flags) : (s.setFlags f).wdtEnabled = s.wdtEnabled := rfl
@[simp] theorem State.setFlags_wdtOpen (f : Flags) : (s.setFlags f).wdtOpen = s.wdtOpen := rfl
@[simp] theorem State.setFlags_wdtExact (f : Flags) : (s.setFlags f).wdtExact = s.wdtExact := rfl
@[simp] theorem State.setFlags_initDone (f : Flags) : (s.setFlags f).initDone = s.initDone := rfl
@[simp] theorem State.setFlags_runState (f : Flags) : (s.setFlags f).runState = s.runState := rfl
@[simp] theorem State.setFlags_nmiPin (f : Flags) : (s.setFlags f).nmiPin = s.nmiPin := rfl
@[simp] theorem State.setFlags_seq (f : Flags) : (s.setFlags f).seq = s.seq := rfl
@[simp] theorem State.setFlags_pending (f : Flags) : (s.setFlags f).pending = s.pending := rfl
@[simp] theorem State.setFlags_mem (f : Flags) : (s.setFlags f).mem = s.mem := rfl
@[simp] theorem State.setFlags_frames (f : Flags) : (s.setFlags f).frames = s.frames := rfl
@[simp] theorem State.setFlags_changed (f : Flags) : (s.setFlags f).changed = s.changed := rfl
@[simp] theorem State.setFlags_lastWrites (f : Flags) : (s.setFlags f).lastWrites = s.lastWrites := rfl
@[simp] theorem State.setFlags_pswBefore (f : Flags) : (s.setFlags f).pswBefore = s.pswBefore := rfl
@[simp] theorem State.setFlags_draws (f : Flags) : (s.setFlags f).draws = s.draws := rfl

/-! ## `drawWord` -/

@[simp] theorem State.drawWord_cfg : (s.drawWord.2).cfg = s.cfg := rfl
@[simp] theorem State.drawWord_ip : (s.drawWord.2).ip = s.ip := rfl
@[simp] theorem State.drawWord_csp : (s.drawWord.2).csp = s.csp := rfl
@[simp] theorem State.drawWord_cp : (s.drawWord.2).cp = s.cp := rfl
@[simp] theorem State.drawWord_sp : (s.drawWord.2).sp = s.sp := rfl
@[simp] theorem State.drawWord_stkov : (s.drawWord.2).stkov = s.stkov := rfl
@[simp] theorem State.drawWord_stkun : (s.drawWord.2).stkun = s.stkun := rfl
@[simp] theorem State.drawWord_psw : (s.drawWord.2).psw = s.psw := rfl
@[simp] theorem State.drawWord_mdh : (s.drawWord.2).mdh = s.mdh := rfl
@[simp] theorem State.drawWord_mdl : (s.drawWord.2).mdl = s.mdl := rfl
@[simp] theorem State.drawWord_mdc : (s.drawWord.2).mdc = s.mdc := rfl
@[simp] theorem State.drawWord_dpp0 : (s.drawWord.2).dpp0 = s.dpp0 := rfl
@[simp] theorem State.drawWord_dpp1 : (s.drawWord.2).dpp1 = s.dpp1 := rfl
@[simp] theorem State.drawWord_dpp2 : (s.drawWord.2).dpp2 = s.dpp2 := rfl
@[simp] theorem State.drawWord_dpp3 : (s.drawWord.2).dpp3 = s.dpp3 := rfl
@[simp] theorem State.drawWord_syscon : (s.drawWord.2).syscon = s.syscon := rfl
@[simp] theorem State.drawWord_tfr : (s.drawWord.2).tfr = s.tfr := rfl
@[simp] theorem State.drawWord_wdt : (s.drawWord.2).wdt = s.wdt := rfl
@[simp] theorem State.drawWord_wdtcon : (s.drawWord.2).wdtcon = s.wdtcon := rfl
@[simp] theorem State.drawWord_wdtEnabled : (s.drawWord.2).wdtEnabled = s.wdtEnabled := rfl
@[simp] theorem State.drawWord_wdtOpen : (s.drawWord.2).wdtOpen = s.wdtOpen := rfl
@[simp] theorem State.drawWord_wdtExact : (s.drawWord.2).wdtExact = s.wdtExact := rfl
@[simp] theorem State.drawWord_initDone : (s.drawWord.2).initDone = s.initDone := rfl
@[simp] theorem State.drawWord_runState : (s.drawWord.2).runState = s.runState := rfl
@[simp] theorem State.drawWord_nmiPin : (s.drawWord.2).nmiPin = s.nmiPin := rfl
@[simp] theorem State.drawWord_seq : (s.drawWord.2).seq = s.seq := rfl
@[simp] theorem State.drawWord_pending : (s.drawWord.2).pending = s.pending := rfl
@[simp] theorem State.drawWord_mem : (s.drawWord.2).mem = s.mem := rfl
@[simp] theorem State.drawWord_frames : (s.drawWord.2).frames = s.frames := rfl
@[simp] theorem State.drawWord_changed : (s.drawWord.2).changed = s.changed := rfl
@[simp] theorem State.drawWord_lastWrites : (s.drawWord.2).lastWrites = s.lastWrites := rfl
@[simp] theorem State.drawWord_pswBefore : (s.drawWord.2).pswBefore = s.pswBefore := rfl
@[simp] theorem State.drawWord_draws : (s.drawWord.2).draws = s.draws + 1 := rfl

/-! ## `drawBit` -/

@[simp] theorem State.drawBit_cfg : (s.drawBit.2).cfg = s.cfg := rfl
@[simp] theorem State.drawBit_ip : (s.drawBit.2).ip = s.ip := rfl
@[simp] theorem State.drawBit_csp : (s.drawBit.2).csp = s.csp := rfl
@[simp] theorem State.drawBit_cp : (s.drawBit.2).cp = s.cp := rfl
@[simp] theorem State.drawBit_sp : (s.drawBit.2).sp = s.sp := rfl
@[simp] theorem State.drawBit_stkov : (s.drawBit.2).stkov = s.stkov := rfl
@[simp] theorem State.drawBit_stkun : (s.drawBit.2).stkun = s.stkun := rfl
@[simp] theorem State.drawBit_psw : (s.drawBit.2).psw = s.psw := rfl
@[simp] theorem State.drawBit_mdh : (s.drawBit.2).mdh = s.mdh := rfl
@[simp] theorem State.drawBit_mdl : (s.drawBit.2).mdl = s.mdl := rfl
@[simp] theorem State.drawBit_mdc : (s.drawBit.2).mdc = s.mdc := rfl
@[simp] theorem State.drawBit_dpp0 : (s.drawBit.2).dpp0 = s.dpp0 := rfl
@[simp] theorem State.drawBit_dpp1 : (s.drawBit.2).dpp1 = s.dpp1 := rfl
@[simp] theorem State.drawBit_dpp2 : (s.drawBit.2).dpp2 = s.dpp2 := rfl
@[simp] theorem State.drawBit_dpp3 : (s.drawBit.2).dpp3 = s.dpp3 := rfl
@[simp] theorem State.drawBit_syscon : (s.drawBit.2).syscon = s.syscon := rfl
@[simp] theorem State.drawBit_tfr : (s.drawBit.2).tfr = s.tfr := rfl
@[simp] theorem State.drawBit_wdt : (s.drawBit.2).wdt = s.wdt := rfl
@[simp] theorem State.drawBit_wdtcon : (s.drawBit.2).wdtcon = s.wdtcon := rfl
@[simp] theorem State.drawBit_wdtEnabled : (s.drawBit.2).wdtEnabled = s.wdtEnabled := rfl
@[simp] theorem State.drawBit_wdtOpen : (s.drawBit.2).wdtOpen = s.wdtOpen := rfl
@[simp] theorem State.drawBit_wdtExact : (s.drawBit.2).wdtExact = s.wdtExact := rfl
@[simp] theorem State.drawBit_initDone : (s.drawBit.2).initDone = s.initDone := rfl
@[simp] theorem State.drawBit_runState : (s.drawBit.2).runState = s.runState := rfl
@[simp] theorem State.drawBit_nmiPin : (s.drawBit.2).nmiPin = s.nmiPin := rfl
@[simp] theorem State.drawBit_seq : (s.drawBit.2).seq = s.seq := rfl
@[simp] theorem State.drawBit_pending : (s.drawBit.2).pending = s.pending := rfl
@[simp] theorem State.drawBit_mem : (s.drawBit.2).mem = s.mem := rfl
@[simp] theorem State.drawBit_frames : (s.drawBit.2).frames = s.frames := rfl
@[simp] theorem State.drawBit_changed : (s.drawBit.2).changed = s.changed := rfl
@[simp] theorem State.drawBit_lastWrites : (s.drawBit.2).lastWrites = s.lastWrites := rfl
@[simp] theorem State.drawBit_pswBefore : (s.drawBit.2).pswBefore = s.pswBefore := rfl
@[simp] theorem State.drawBit_draws : (s.drawBit.2).draws = s.draws + 1 := rfl

/-! ## `clearMdInUse` -/

@[simp] theorem State.clearMdInUse_cfg : (s.clearMdInUse).cfg = s.cfg := rfl
@[simp] theorem State.clearMdInUse_ip : (s.clearMdInUse).ip = s.ip := rfl
@[simp] theorem State.clearMdInUse_csp : (s.clearMdInUse).csp = s.csp := rfl
@[simp] theorem State.clearMdInUse_cp : (s.clearMdInUse).cp = s.cp := rfl
@[simp] theorem State.clearMdInUse_sp : (s.clearMdInUse).sp = s.sp := rfl
@[simp] theorem State.clearMdInUse_stkov : (s.clearMdInUse).stkov = s.stkov := rfl
@[simp] theorem State.clearMdInUse_stkun : (s.clearMdInUse).stkun = s.stkun := rfl
@[simp] theorem State.clearMdInUse_psw : (s.clearMdInUse).psw = s.psw := rfl
@[simp] theorem State.clearMdInUse_mdh : (s.clearMdInUse).mdh = s.mdh := rfl
@[simp] theorem State.clearMdInUse_mdl : (s.clearMdInUse).mdl = s.mdl := rfl
@[simp] theorem State.clearMdInUse_mdc : (s.clearMdInUse).mdc = s.mdc &&& 0xFFEF := rfl
@[simp] theorem State.clearMdInUse_dpp0 : (s.clearMdInUse).dpp0 = s.dpp0 := rfl
@[simp] theorem State.clearMdInUse_dpp1 : (s.clearMdInUse).dpp1 = s.dpp1 := rfl
@[simp] theorem State.clearMdInUse_dpp2 : (s.clearMdInUse).dpp2 = s.dpp2 := rfl
@[simp] theorem State.clearMdInUse_dpp3 : (s.clearMdInUse).dpp3 = s.dpp3 := rfl
@[simp] theorem State.clearMdInUse_syscon : (s.clearMdInUse).syscon = s.syscon := rfl
@[simp] theorem State.clearMdInUse_tfr : (s.clearMdInUse).tfr = s.tfr := rfl
@[simp] theorem State.clearMdInUse_wdt : (s.clearMdInUse).wdt = s.wdt := rfl
@[simp] theorem State.clearMdInUse_wdtcon : (s.clearMdInUse).wdtcon = s.wdtcon := rfl
@[simp] theorem State.clearMdInUse_wdtEnabled : (s.clearMdInUse).wdtEnabled = s.wdtEnabled := rfl
@[simp] theorem State.clearMdInUse_wdtOpen : (s.clearMdInUse).wdtOpen = s.wdtOpen := rfl
@[simp] theorem State.clearMdInUse_wdtExact : (s.clearMdInUse).wdtExact = s.wdtExact := rfl
@[simp] theorem State.clearMdInUse_initDone : (s.clearMdInUse).initDone = s.initDone := rfl
@[simp] theorem State.clearMdInUse_runState : (s.clearMdInUse).runState = s.runState := rfl
@[simp] theorem State.clearMdInUse_nmiPin : (s.clearMdInUse).nmiPin = s.nmiPin := rfl
@[simp] theorem State.clearMdInUse_seq : (s.clearMdInUse).seq = s.seq := rfl
@[simp] theorem State.clearMdInUse_pending : (s.clearMdInUse).pending = s.pending := rfl
@[simp] theorem State.clearMdInUse_mem : (s.clearMdInUse).mem = s.mem := rfl
@[simp] theorem State.clearMdInUse_frames : (s.clearMdInUse).frames = s.frames := rfl
@[simp] theorem State.clearMdInUse_changed : (s.clearMdInUse).changed = s.changed := rfl
@[simp] theorem State.clearMdInUse_lastWrites : (s.clearMdInUse).lastWrites = s.lastWrites := rfl
@[simp] theorem State.clearMdInUse_pswBefore : (s.clearMdInUse).pswBefore = s.pswBefore := rfl
@[simp] theorem State.clearMdInUse_draws : (s.clearMdInUse).draws = s.draws := rfl

/-! ## `markMdInUse` -/

@[simp] theorem State.markMdInUse_cfg : (s.markMdInUse).cfg = s.cfg := rfl
@[simp] theorem State.markMdInUse_ip : (s.markMdInUse).ip = s.ip := rfl
@[simp] theorem State.markMdInUse_csp : (s.markMdInUse).csp = s.csp := rfl
@[simp] theorem State.markMdInUse_cp : (s.markMdInUse).cp = s.cp := rfl
@[simp] theorem State.markMdInUse_sp : (s.markMdInUse).sp = s.sp := rfl
@[simp] theorem State.markMdInUse_stkov : (s.markMdInUse).stkov = s.stkov := rfl
@[simp] theorem State.markMdInUse_stkun : (s.markMdInUse).stkun = s.stkun := rfl
@[simp] theorem State.markMdInUse_psw : (s.markMdInUse).psw = s.psw := rfl
@[simp] theorem State.markMdInUse_mdh : (s.markMdInUse).mdh = s.mdh := rfl
@[simp] theorem State.markMdInUse_mdl : (s.markMdInUse).mdl = s.mdl := rfl
@[simp] theorem State.markMdInUse_mdc : (s.markMdInUse).mdc = s.mdc ||| 0x0010 := rfl
@[simp] theorem State.markMdInUse_dpp0 : (s.markMdInUse).dpp0 = s.dpp0 := rfl
@[simp] theorem State.markMdInUse_dpp1 : (s.markMdInUse).dpp1 = s.dpp1 := rfl
@[simp] theorem State.markMdInUse_dpp2 : (s.markMdInUse).dpp2 = s.dpp2 := rfl
@[simp] theorem State.markMdInUse_dpp3 : (s.markMdInUse).dpp3 = s.dpp3 := rfl
@[simp] theorem State.markMdInUse_syscon : (s.markMdInUse).syscon = s.syscon := rfl
@[simp] theorem State.markMdInUse_tfr : (s.markMdInUse).tfr = s.tfr := rfl
@[simp] theorem State.markMdInUse_wdt : (s.markMdInUse).wdt = s.wdt := rfl
@[simp] theorem State.markMdInUse_wdtcon : (s.markMdInUse).wdtcon = s.wdtcon := rfl
@[simp] theorem State.markMdInUse_wdtEnabled : (s.markMdInUse).wdtEnabled = s.wdtEnabled := rfl
@[simp] theorem State.markMdInUse_wdtOpen : (s.markMdInUse).wdtOpen = s.wdtOpen := rfl
@[simp] theorem State.markMdInUse_wdtExact : (s.markMdInUse).wdtExact = s.wdtExact := rfl
@[simp] theorem State.markMdInUse_initDone : (s.markMdInUse).initDone = s.initDone := rfl
@[simp] theorem State.markMdInUse_runState : (s.markMdInUse).runState = s.runState := rfl
@[simp] theorem State.markMdInUse_nmiPin : (s.markMdInUse).nmiPin = s.nmiPin := rfl
@[simp] theorem State.markMdInUse_seq : (s.markMdInUse).seq = s.seq := rfl
@[simp] theorem State.markMdInUse_pending : (s.markMdInUse).pending = s.pending := rfl
@[simp] theorem State.markMdInUse_mem : (s.markMdInUse).mem = s.mem := rfl
@[simp] theorem State.markMdInUse_frames : (s.markMdInUse).frames = s.frames := rfl
@[simp] theorem State.markMdInUse_changed : (s.markMdInUse).changed = s.changed := rfl
@[simp] theorem State.markMdInUse_lastWrites : (s.markMdInUse).lastWrites = s.lastWrites := rfl
@[simp] theorem State.markMdInUse_pswBefore : (s.markMdInUse).pswBefore = s.pswBefore := rfl
@[simp] theorem State.markMdInUse_draws : (s.markMdInUse).draws = s.draws := rfl

/-! ## `setMd` -/

@[simp] theorem State.setMd_cfg (hi lo : Word) : (s.setMd hi lo).cfg = s.cfg := rfl
@[simp] theorem State.setMd_ip (hi lo : Word) : (s.setMd hi lo).ip = s.ip := rfl
@[simp] theorem State.setMd_csp (hi lo : Word) : (s.setMd hi lo).csp = s.csp := rfl
@[simp] theorem State.setMd_cp (hi lo : Word) : (s.setMd hi lo).cp = s.cp := rfl
@[simp] theorem State.setMd_sp (hi lo : Word) : (s.setMd hi lo).sp = s.sp := rfl
@[simp] theorem State.setMd_stkov (hi lo : Word) : (s.setMd hi lo).stkov = s.stkov := rfl
@[simp] theorem State.setMd_stkun (hi lo : Word) : (s.setMd hi lo).stkun = s.stkun := rfl
@[simp] theorem State.setMd_psw (hi lo : Word) : (s.setMd hi lo).psw = s.psw := rfl
@[simp] theorem State.setMd_mdh (hi lo : Word) : (s.setMd hi lo).mdh = hi := rfl
@[simp] theorem State.setMd_mdl (hi lo : Word) : (s.setMd hi lo).mdl = lo := rfl
@[simp] theorem State.setMd_mdc (hi lo : Word) : (s.setMd hi lo).mdc = s.mdc := rfl
@[simp] theorem State.setMd_dpp0 (hi lo : Word) : (s.setMd hi lo).dpp0 = s.dpp0 := rfl
@[simp] theorem State.setMd_dpp1 (hi lo : Word) : (s.setMd hi lo).dpp1 = s.dpp1 := rfl
@[simp] theorem State.setMd_dpp2 (hi lo : Word) : (s.setMd hi lo).dpp2 = s.dpp2 := rfl
@[simp] theorem State.setMd_dpp3 (hi lo : Word) : (s.setMd hi lo).dpp3 = s.dpp3 := rfl
@[simp] theorem State.setMd_syscon (hi lo : Word) : (s.setMd hi lo).syscon = s.syscon := rfl
@[simp] theorem State.setMd_tfr (hi lo : Word) : (s.setMd hi lo).tfr = s.tfr := rfl
@[simp] theorem State.setMd_wdt (hi lo : Word) : (s.setMd hi lo).wdt = s.wdt := rfl
@[simp] theorem State.setMd_wdtcon (hi lo : Word) : (s.setMd hi lo).wdtcon = s.wdtcon := rfl
@[simp] theorem State.setMd_wdtEnabled (hi lo : Word) : (s.setMd hi lo).wdtEnabled = s.wdtEnabled := rfl
@[simp] theorem State.setMd_wdtOpen (hi lo : Word) : (s.setMd hi lo).wdtOpen = s.wdtOpen := rfl
@[simp] theorem State.setMd_wdtExact (hi lo : Word) : (s.setMd hi lo).wdtExact = s.wdtExact := rfl
@[simp] theorem State.setMd_initDone (hi lo : Word) : (s.setMd hi lo).initDone = s.initDone := rfl
@[simp] theorem State.setMd_runState (hi lo : Word) : (s.setMd hi lo).runState = s.runState := rfl
@[simp] theorem State.setMd_nmiPin (hi lo : Word) : (s.setMd hi lo).nmiPin = s.nmiPin := rfl
@[simp] theorem State.setMd_seq (hi lo : Word) : (s.setMd hi lo).seq = s.seq := rfl
@[simp] theorem State.setMd_pending (hi lo : Word) : (s.setMd hi lo).pending = s.pending := rfl
@[simp] theorem State.setMd_mem (hi lo : Word) : (s.setMd hi lo).mem = s.mem := rfl
@[simp] theorem State.setMd_frames (hi lo : Word) : (s.setMd hi lo).frames = s.frames := rfl
@[simp] theorem State.setMd_changed (hi lo : Word) : (s.setMd hi lo).changed = s.changed := rfl
@[simp] theorem State.setMd_lastWrites (hi lo : Word) : (s.setMd hi lo).lastWrites = s.lastWrites := rfl
@[simp] theorem State.setMd_pswBefore (hi lo : Word) : (s.setMd hi lo).pswBefore = s.pswBefore := rfl
@[simp] theorem State.setMd_draws (hi lo : Word) : (s.setMd hi lo).draws = s.draws := rfl

/-! ## `drawMdc` -/

@[simp] theorem State.drawMdc_cfg : (s.drawMdc).cfg = s.cfg := rfl
@[simp] theorem State.drawMdc_ip : (s.drawMdc).ip = s.ip := rfl
@[simp] theorem State.drawMdc_csp : (s.drawMdc).csp = s.csp := rfl
@[simp] theorem State.drawMdc_cp : (s.drawMdc).cp = s.cp := rfl
@[simp] theorem State.drawMdc_sp : (s.drawMdc).sp = s.sp := rfl
@[simp] theorem State.drawMdc_stkov : (s.drawMdc).stkov = s.stkov := rfl
@[simp] theorem State.drawMdc_stkun : (s.drawMdc).stkun = s.stkun := rfl
@[simp] theorem State.drawMdc_psw : (s.drawMdc).psw = s.psw := rfl
@[simp] theorem State.drawMdc_mdh : (s.drawMdc).mdh = s.mdh := rfl
@[simp] theorem State.drawMdc_mdl : (s.drawMdc).mdl = s.mdl := rfl
@[simp] theorem State.drawMdc_mdc : (s.drawMdc).mdc = Config.freeWord s.draws := rfl
@[simp] theorem State.drawMdc_dpp0 : (s.drawMdc).dpp0 = s.dpp0 := rfl
@[simp] theorem State.drawMdc_dpp1 : (s.drawMdc).dpp1 = s.dpp1 := rfl
@[simp] theorem State.drawMdc_dpp2 : (s.drawMdc).dpp2 = s.dpp2 := rfl
@[simp] theorem State.drawMdc_dpp3 : (s.drawMdc).dpp3 = s.dpp3 := rfl
@[simp] theorem State.drawMdc_syscon : (s.drawMdc).syscon = s.syscon := rfl
@[simp] theorem State.drawMdc_tfr : (s.drawMdc).tfr = s.tfr := rfl
@[simp] theorem State.drawMdc_wdt : (s.drawMdc).wdt = s.wdt := rfl
@[simp] theorem State.drawMdc_wdtcon : (s.drawMdc).wdtcon = s.wdtcon := rfl
@[simp] theorem State.drawMdc_wdtEnabled : (s.drawMdc).wdtEnabled = s.wdtEnabled := rfl
@[simp] theorem State.drawMdc_wdtOpen : (s.drawMdc).wdtOpen = s.wdtOpen := rfl
@[simp] theorem State.drawMdc_wdtExact : (s.drawMdc).wdtExact = s.wdtExact := rfl
@[simp] theorem State.drawMdc_initDone : (s.drawMdc).initDone = s.initDone := rfl
@[simp] theorem State.drawMdc_runState : (s.drawMdc).runState = s.runState := rfl
@[simp] theorem State.drawMdc_nmiPin : (s.drawMdc).nmiPin = s.nmiPin := rfl
@[simp] theorem State.drawMdc_seq : (s.drawMdc).seq = s.seq := rfl
@[simp] theorem State.drawMdc_pending : (s.drawMdc).pending = s.pending := rfl
@[simp] theorem State.drawMdc_mem : (s.drawMdc).mem = s.mem := rfl
@[simp] theorem State.drawMdc_frames : (s.drawMdc).frames = s.frames := rfl
@[simp] theorem State.drawMdc_changed : (s.drawMdc).changed = s.changed := rfl
@[simp] theorem State.drawMdc_lastWrites : (s.drawMdc).lastWrites = s.lastWrites := rfl
@[simp] theorem State.drawMdc_pswBefore : (s.drawMdc).pswBefore = s.pswBefore := rfl
@[simp] theorem State.drawMdc_draws : (s.drawMdc).draws = s.draws + 1 := rfl

/-! ## `setQuotient` -/

@[simp] theorem State.setQuotient_cfg (q r : Word) : (s.setQuotient q r).cfg = s.cfg := rfl
@[simp] theorem State.setQuotient_ip (q r : Word) : (s.setQuotient q r).ip = s.ip := rfl
@[simp] theorem State.setQuotient_csp (q r : Word) : (s.setQuotient q r).csp = s.csp := rfl
@[simp] theorem State.setQuotient_cp (q r : Word) : (s.setQuotient q r).cp = s.cp := rfl
@[simp] theorem State.setQuotient_sp (q r : Word) : (s.setQuotient q r).sp = s.sp := rfl
@[simp] theorem State.setQuotient_stkov (q r : Word) : (s.setQuotient q r).stkov = s.stkov := rfl
@[simp] theorem State.setQuotient_stkun (q r : Word) : (s.setQuotient q r).stkun = s.stkun := rfl
@[simp] theorem State.setQuotient_psw (q r : Word) : (s.setQuotient q r).psw = withFlags s.cfg.psw s.psw ⟨false, decide (q = 0), false, false, q.msb⟩ := rfl
@[simp] theorem State.setQuotient_mdh (q r : Word) : (s.setQuotient q r).mdh = r := rfl
@[simp] theorem State.setQuotient_mdl (q r : Word) : (s.setQuotient q r).mdl = q := rfl
@[simp] theorem State.setQuotient_mdc (q r : Word) : (s.setQuotient q r).mdc = s.mdc := rfl
@[simp] theorem State.setQuotient_dpp0 (q r : Word) : (s.setQuotient q r).dpp0 = s.dpp0 := rfl
@[simp] theorem State.setQuotient_dpp1 (q r : Word) : (s.setQuotient q r).dpp1 = s.dpp1 := rfl
@[simp] theorem State.setQuotient_dpp2 (q r : Word) : (s.setQuotient q r).dpp2 = s.dpp2 := rfl
@[simp] theorem State.setQuotient_dpp3 (q r : Word) : (s.setQuotient q r).dpp3 = s.dpp3 := rfl
@[simp] theorem State.setQuotient_syscon (q r : Word) : (s.setQuotient q r).syscon = s.syscon := rfl
@[simp] theorem State.setQuotient_tfr (q r : Word) : (s.setQuotient q r).tfr = s.tfr := rfl
@[simp] theorem State.setQuotient_wdt (q r : Word) : (s.setQuotient q r).wdt = s.wdt := rfl
@[simp] theorem State.setQuotient_wdtcon (q r : Word) : (s.setQuotient q r).wdtcon = s.wdtcon := rfl
@[simp] theorem State.setQuotient_wdtEnabled (q r : Word) : (s.setQuotient q r).wdtEnabled = s.wdtEnabled := rfl
@[simp] theorem State.setQuotient_wdtOpen (q r : Word) : (s.setQuotient q r).wdtOpen = s.wdtOpen := rfl
@[simp] theorem State.setQuotient_wdtExact (q r : Word) : (s.setQuotient q r).wdtExact = s.wdtExact := rfl
@[simp] theorem State.setQuotient_initDone (q r : Word) : (s.setQuotient q r).initDone = s.initDone := rfl
@[simp] theorem State.setQuotient_runState (q r : Word) : (s.setQuotient q r).runState = s.runState := rfl
@[simp] theorem State.setQuotient_nmiPin (q r : Word) : (s.setQuotient q r).nmiPin = s.nmiPin := rfl
@[simp] theorem State.setQuotient_seq (q r : Word) : (s.setQuotient q r).seq = s.seq := rfl
@[simp] theorem State.setQuotient_pending (q r : Word) : (s.setQuotient q r).pending = s.pending := rfl
@[simp] theorem State.setQuotient_mem (q r : Word) : (s.setQuotient q r).mem = s.mem := rfl
@[simp] theorem State.setQuotient_frames (q r : Word) : (s.setQuotient q r).frames = s.frames := rfl
@[simp] theorem State.setQuotient_changed (q r : Word) : (s.setQuotient q r).changed = s.changed := rfl
@[simp] theorem State.setQuotient_lastWrites (q r : Word) : (s.setQuotient q r).lastWrites = s.lastWrites := rfl
@[simp] theorem State.setQuotient_pswBefore (q r : Word) : (s.setQuotient q r).pswBefore = s.pswBefore := rfl
@[simp] theorem State.setQuotient_draws (q r : Word) : (s.setQuotient q r).draws = s.draws := rfl

/-! ## `noteFrame` -/

@[simp] theorem State.noteFrame_cfg (b : Bool) : (s.noteFrame b).cfg = s.cfg := rfl
@[simp] theorem State.noteFrame_ip (b : Bool) : (s.noteFrame b).ip = s.ip := rfl
@[simp] theorem State.noteFrame_csp (b : Bool) : (s.noteFrame b).csp = s.csp := rfl
@[simp] theorem State.noteFrame_cp (b : Bool) : (s.noteFrame b).cp = s.cp := rfl
@[simp] theorem State.noteFrame_sp (b : Bool) : (s.noteFrame b).sp = s.sp := rfl
@[simp] theorem State.noteFrame_stkov (b : Bool) : (s.noteFrame b).stkov = s.stkov := rfl
@[simp] theorem State.noteFrame_stkun (b : Bool) : (s.noteFrame b).stkun = s.stkun := rfl
@[simp] theorem State.noteFrame_psw (b : Bool) : (s.noteFrame b).psw = s.psw := rfl
@[simp] theorem State.noteFrame_mdh (b : Bool) : (s.noteFrame b).mdh = s.mdh := rfl
@[simp] theorem State.noteFrame_mdl (b : Bool) : (s.noteFrame b).mdl = s.mdl := rfl
@[simp] theorem State.noteFrame_mdc (b : Bool) : (s.noteFrame b).mdc = s.mdc := rfl
@[simp] theorem State.noteFrame_dpp0 (b : Bool) : (s.noteFrame b).dpp0 = s.dpp0 := rfl
@[simp] theorem State.noteFrame_dpp1 (b : Bool) : (s.noteFrame b).dpp1 = s.dpp1 := rfl
@[simp] theorem State.noteFrame_dpp2 (b : Bool) : (s.noteFrame b).dpp2 = s.dpp2 := rfl
@[simp] theorem State.noteFrame_dpp3 (b : Bool) : (s.noteFrame b).dpp3 = s.dpp3 := rfl
@[simp] theorem State.noteFrame_syscon (b : Bool) : (s.noteFrame b).syscon = s.syscon := rfl
@[simp] theorem State.noteFrame_tfr (b : Bool) : (s.noteFrame b).tfr = s.tfr := rfl
@[simp] theorem State.noteFrame_wdt (b : Bool) : (s.noteFrame b).wdt = s.wdt := rfl
@[simp] theorem State.noteFrame_wdtcon (b : Bool) : (s.noteFrame b).wdtcon = s.wdtcon := rfl
@[simp] theorem State.noteFrame_wdtEnabled (b : Bool) : (s.noteFrame b).wdtEnabled = s.wdtEnabled := rfl
@[simp] theorem State.noteFrame_wdtOpen (b : Bool) : (s.noteFrame b).wdtOpen = s.wdtOpen := rfl
@[simp] theorem State.noteFrame_wdtExact (b : Bool) : (s.noteFrame b).wdtExact = s.wdtExact := rfl
@[simp] theorem State.noteFrame_initDone (b : Bool) : (s.noteFrame b).initDone = s.initDone := rfl
@[simp] theorem State.noteFrame_runState (b : Bool) : (s.noteFrame b).runState = s.runState := rfl
@[simp] theorem State.noteFrame_nmiPin (b : Bool) : (s.noteFrame b).nmiPin = s.nmiPin := rfl
@[simp] theorem State.noteFrame_seq (b : Bool) : (s.noteFrame b).seq = s.seq := rfl
@[simp] theorem State.noteFrame_pending (b : Bool) : (s.noteFrame b).pending = s.pending := rfl
@[simp] theorem State.noteFrame_mem (b : Bool) : (s.noteFrame b).mem = s.mem := rfl
@[simp] theorem State.noteFrame_frames (b : Bool) : (s.noteFrame b).frames = (s.sp, b) :: s.frames.filter fun f => decide (f.1 ≠ s.sp) := rfl
@[simp] theorem State.noteFrame_changed (b : Bool) : (s.noteFrame b).changed = s.changed := rfl
@[simp] theorem State.noteFrame_lastWrites (b : Bool) : (s.noteFrame b).lastWrites = s.lastWrites := rfl
@[simp] theorem State.noteFrame_pswBefore (b : Bool) : (s.noteFrame b).pswBefore = s.pswBefore := rfl
@[simp] theorem State.noteFrame_draws (b : Bool) : (s.noteFrame b).draws = s.draws := rfl

/-! ## `dropFrame` -/

@[simp] theorem State.dropFrame_cfg : (s.dropFrame).cfg = s.cfg := rfl
@[simp] theorem State.dropFrame_ip : (s.dropFrame).ip = s.ip := rfl
@[simp] theorem State.dropFrame_csp : (s.dropFrame).csp = s.csp := rfl
@[simp] theorem State.dropFrame_cp : (s.dropFrame).cp = s.cp := rfl
@[simp] theorem State.dropFrame_sp : (s.dropFrame).sp = s.sp := rfl
@[simp] theorem State.dropFrame_stkov : (s.dropFrame).stkov = s.stkov := rfl
@[simp] theorem State.dropFrame_stkun : (s.dropFrame).stkun = s.stkun := rfl
@[simp] theorem State.dropFrame_psw : (s.dropFrame).psw = s.psw := rfl
@[simp] theorem State.dropFrame_mdh : (s.dropFrame).mdh = s.mdh := rfl
@[simp] theorem State.dropFrame_mdl : (s.dropFrame).mdl = s.mdl := rfl
@[simp] theorem State.dropFrame_mdc : (s.dropFrame).mdc = s.mdc := rfl
@[simp] theorem State.dropFrame_dpp0 : (s.dropFrame).dpp0 = s.dpp0 := rfl
@[simp] theorem State.dropFrame_dpp1 : (s.dropFrame).dpp1 = s.dpp1 := rfl
@[simp] theorem State.dropFrame_dpp2 : (s.dropFrame).dpp2 = s.dpp2 := rfl
@[simp] theorem State.dropFrame_dpp3 : (s.dropFrame).dpp3 = s.dpp3 := rfl
@[simp] theorem State.dropFrame_syscon : (s.dropFrame).syscon = s.syscon := rfl
@[simp] theorem State.dropFrame_tfr : (s.dropFrame).tfr = s.tfr := rfl
@[simp] theorem State.dropFrame_wdt : (s.dropFrame).wdt = s.wdt := rfl
@[simp] theorem State.dropFrame_wdtcon : (s.dropFrame).wdtcon = s.wdtcon := rfl
@[simp] theorem State.dropFrame_wdtEnabled : (s.dropFrame).wdtEnabled = s.wdtEnabled := rfl
@[simp] theorem State.dropFrame_wdtOpen : (s.dropFrame).wdtOpen = s.wdtOpen := rfl
@[simp] theorem State.dropFrame_wdtExact : (s.dropFrame).wdtExact = s.wdtExact := rfl
@[simp] theorem State.dropFrame_initDone : (s.dropFrame).initDone = s.initDone := rfl
@[simp] theorem State.dropFrame_runState : (s.dropFrame).runState = s.runState := rfl
@[simp] theorem State.dropFrame_nmiPin : (s.dropFrame).nmiPin = s.nmiPin := rfl
@[simp] theorem State.dropFrame_seq : (s.dropFrame).seq = s.seq := rfl
@[simp] theorem State.dropFrame_pending : (s.dropFrame).pending = s.pending := rfl
@[simp] theorem State.dropFrame_mem : (s.dropFrame).mem = s.mem := rfl
@[simp] theorem State.dropFrame_frames : (s.dropFrame).frames = s.frames.filter fun f => decide (f.1 ≠ s.sp) := rfl
@[simp] theorem State.dropFrame_changed : (s.dropFrame).changed = s.changed := rfl
@[simp] theorem State.dropFrame_lastWrites : (s.dropFrame).lastWrites = s.lastWrites := rfl
@[simp] theorem State.dropFrame_pswBefore : (s.dropFrame).pswBefore = s.pswBefore := rfl
@[simp] theorem State.dropFrame_draws : (s.dropFrame).draws = s.draws := rfl

/-! ## `storeByte` -/

@[simp] theorem State.storeByte_cfg (a : Nat) (v : Byte) : (s.storeByte a v).cfg = s.cfg := rfl
@[simp] theorem State.storeByte_ip (a : Nat) (v : Byte) : (s.storeByte a v).ip = s.ip := rfl
@[simp] theorem State.storeByte_csp (a : Nat) (v : Byte) : (s.storeByte a v).csp = s.csp := rfl
@[simp] theorem State.storeByte_cp (a : Nat) (v : Byte) : (s.storeByte a v).cp = s.cp := rfl
@[simp] theorem State.storeByte_sp (a : Nat) (v : Byte) : (s.storeByte a v).sp = s.sp := rfl
@[simp] theorem State.storeByte_stkov (a : Nat) (v : Byte) : (s.storeByte a v).stkov = s.stkov := rfl
@[simp] theorem State.storeByte_stkun (a : Nat) (v : Byte) : (s.storeByte a v).stkun = s.stkun := rfl
@[simp] theorem State.storeByte_psw (a : Nat) (v : Byte) : (s.storeByte a v).psw = s.psw := rfl
@[simp] theorem State.storeByte_mdh (a : Nat) (v : Byte) : (s.storeByte a v).mdh = s.mdh := rfl
@[simp] theorem State.storeByte_mdl (a : Nat) (v : Byte) : (s.storeByte a v).mdl = s.mdl := rfl
@[simp] theorem State.storeByte_mdc (a : Nat) (v : Byte) : (s.storeByte a v).mdc = s.mdc := rfl
@[simp] theorem State.storeByte_dpp0 (a : Nat) (v : Byte) : (s.storeByte a v).dpp0 = s.dpp0 := rfl
@[simp] theorem State.storeByte_dpp1 (a : Nat) (v : Byte) : (s.storeByte a v).dpp1 = s.dpp1 := rfl
@[simp] theorem State.storeByte_dpp2 (a : Nat) (v : Byte) : (s.storeByte a v).dpp2 = s.dpp2 := rfl
@[simp] theorem State.storeByte_dpp3 (a : Nat) (v : Byte) : (s.storeByte a v).dpp3 = s.dpp3 := rfl
@[simp] theorem State.storeByte_syscon (a : Nat) (v : Byte) : (s.storeByte a v).syscon = s.syscon := rfl
@[simp] theorem State.storeByte_tfr (a : Nat) (v : Byte) : (s.storeByte a v).tfr = s.tfr := rfl
@[simp] theorem State.storeByte_wdt (a : Nat) (v : Byte) : (s.storeByte a v).wdt = s.wdt := rfl
@[simp] theorem State.storeByte_wdtcon (a : Nat) (v : Byte) : (s.storeByte a v).wdtcon = s.wdtcon := rfl
@[simp] theorem State.storeByte_wdtEnabled (a : Nat) (v : Byte) : (s.storeByte a v).wdtEnabled = s.wdtEnabled := rfl
@[simp] theorem State.storeByte_wdtOpen (a : Nat) (v : Byte) : (s.storeByte a v).wdtOpen = s.wdtOpen := rfl
@[simp] theorem State.storeByte_wdtExact (a : Nat) (v : Byte) : (s.storeByte a v).wdtExact = s.wdtExact := rfl
@[simp] theorem State.storeByte_initDone (a : Nat) (v : Byte) : (s.storeByte a v).initDone = s.initDone := rfl
@[simp] theorem State.storeByte_runState (a : Nat) (v : Byte) : (s.storeByte a v).runState = s.runState := rfl
@[simp] theorem State.storeByte_nmiPin (a : Nat) (v : Byte) : (s.storeByte a v).nmiPin = s.nmiPin := rfl
@[simp] theorem State.storeByte_seq (a : Nat) (v : Byte) : (s.storeByte a v).seq = s.seq := rfl
@[simp] theorem State.storeByte_pending (a : Nat) (v : Byte) : (s.storeByte a v).pending = s.pending := rfl
@[simp] theorem State.storeByte_mem (a : Nat) (v : Byte) : (s.storeByte a v).mem = s.mem.set a v := rfl
@[simp] theorem State.storeByte_frames (a : Nat) (v : Byte) : (s.storeByte a v).frames = s.frames := rfl
@[simp] theorem State.storeByte_changed (a : Nat) (v : Byte) : (s.storeByte a v).changed = if s.mem.get a = v then s.changed else insertAddr a s.changed := rfl
@[simp] theorem State.storeByte_lastWrites (a : Nat) (v : Byte) : (s.storeByte a v).lastWrites = s.lastWrites := rfl
@[simp] theorem State.storeByte_pswBefore (a : Nat) (v : Byte) : (s.storeByte a v).pswBefore = s.pswBefore := rfl
@[simp] theorem State.storeByte_draws (a : Nat) (v : Byte) : (s.storeByte a v).draws = s.draws := rfl

/-! ## `driveByte` -/

@[simp] theorem State.driveByte_cfg (a : Nat) (v : Byte) : (s.driveByte a v).cfg = s.cfg := rfl
@[simp] theorem State.driveByte_ip (a : Nat) (v : Byte) : (s.driveByte a v).ip = s.ip := rfl
@[simp] theorem State.driveByte_csp (a : Nat) (v : Byte) : (s.driveByte a v).csp = s.csp := rfl
@[simp] theorem State.driveByte_cp (a : Nat) (v : Byte) : (s.driveByte a v).cp = s.cp := rfl
@[simp] theorem State.driveByte_sp (a : Nat) (v : Byte) : (s.driveByte a v).sp = s.sp := rfl
@[simp] theorem State.driveByte_stkov (a : Nat) (v : Byte) : (s.driveByte a v).stkov = s.stkov := rfl
@[simp] theorem State.driveByte_stkun (a : Nat) (v : Byte) : (s.driveByte a v).stkun = s.stkun := rfl
@[simp] theorem State.driveByte_psw (a : Nat) (v : Byte) : (s.driveByte a v).psw = s.psw := rfl
@[simp] theorem State.driveByte_mdh (a : Nat) (v : Byte) : (s.driveByte a v).mdh = s.mdh := rfl
@[simp] theorem State.driveByte_mdl (a : Nat) (v : Byte) : (s.driveByte a v).mdl = s.mdl := rfl
@[simp] theorem State.driveByte_mdc (a : Nat) (v : Byte) : (s.driveByte a v).mdc = s.mdc := rfl
@[simp] theorem State.driveByte_dpp0 (a : Nat) (v : Byte) : (s.driveByte a v).dpp0 = s.dpp0 := rfl
@[simp] theorem State.driveByte_dpp1 (a : Nat) (v : Byte) : (s.driveByte a v).dpp1 = s.dpp1 := rfl
@[simp] theorem State.driveByte_dpp2 (a : Nat) (v : Byte) : (s.driveByte a v).dpp2 = s.dpp2 := rfl
@[simp] theorem State.driveByte_dpp3 (a : Nat) (v : Byte) : (s.driveByte a v).dpp3 = s.dpp3 := rfl
@[simp] theorem State.driveByte_syscon (a : Nat) (v : Byte) : (s.driveByte a v).syscon = s.syscon := rfl
@[simp] theorem State.driveByte_tfr (a : Nat) (v : Byte) : (s.driveByte a v).tfr = s.tfr := rfl
@[simp] theorem State.driveByte_wdt (a : Nat) (v : Byte) : (s.driveByte a v).wdt = s.wdt := rfl
@[simp] theorem State.driveByte_wdtcon (a : Nat) (v : Byte) : (s.driveByte a v).wdtcon = s.wdtcon := rfl
@[simp] theorem State.driveByte_wdtEnabled (a : Nat) (v : Byte) : (s.driveByte a v).wdtEnabled = s.wdtEnabled := rfl
@[simp] theorem State.driveByte_wdtOpen (a : Nat) (v : Byte) : (s.driveByte a v).wdtOpen = s.wdtOpen := rfl
@[simp] theorem State.driveByte_wdtExact (a : Nat) (v : Byte) : (s.driveByte a v).wdtExact = s.wdtExact := rfl
@[simp] theorem State.driveByte_initDone (a : Nat) (v : Byte) : (s.driveByte a v).initDone = s.initDone := rfl
@[simp] theorem State.driveByte_runState (a : Nat) (v : Byte) : (s.driveByte a v).runState = s.runState := rfl
@[simp] theorem State.driveByte_nmiPin (a : Nat) (v : Byte) : (s.driveByte a v).nmiPin = s.nmiPin := rfl
@[simp] theorem State.driveByte_seq (a : Nat) (v : Byte) : (s.driveByte a v).seq = s.seq := rfl
@[simp] theorem State.driveByte_pending (a : Nat) (v : Byte) : (s.driveByte a v).pending = s.pending := rfl
@[simp] theorem State.driveByte_mem (a : Nat) (v : Byte) : (s.driveByte a v).mem = s.mem.set a v := rfl
@[simp] theorem State.driveByte_frames (a : Nat) (v : Byte) : (s.driveByte a v).frames = s.frames := rfl
@[simp] theorem State.driveByte_changed (a : Nat) (v : Byte) : (s.driveByte a v).changed = s.changed := rfl
@[simp] theorem State.driveByte_lastWrites (a : Nat) (v : Byte) : (s.driveByte a v).lastWrites = s.lastWrites := rfl
@[simp] theorem State.driveByte_pswBefore (a : Nat) (v : Byte) : (s.driveByte a v).pswBefore = s.pswBefore := rfl
@[simp] theorem State.driveByte_draws (a : Nat) (v : Byte) : (s.driveByte a v).draws = s.draws := rfl

/-! ## `storeWord` -/

@[simp] theorem State.storeWord_cfg (a : Nat) (v : Word) : (s.storeWord a v).cfg = s.cfg := rfl
@[simp] theorem State.storeWord_ip (a : Nat) (v : Word) : (s.storeWord a v).ip = s.ip := rfl
@[simp] theorem State.storeWord_csp (a : Nat) (v : Word) : (s.storeWord a v).csp = s.csp := rfl
@[simp] theorem State.storeWord_cp (a : Nat) (v : Word) : (s.storeWord a v).cp = s.cp := rfl
@[simp] theorem State.storeWord_sp (a : Nat) (v : Word) : (s.storeWord a v).sp = s.sp := rfl
@[simp] theorem State.storeWord_stkov (a : Nat) (v : Word) : (s.storeWord a v).stkov = s.stkov := rfl
@[simp] theorem State.storeWord_stkun (a : Nat) (v : Word) : (s.storeWord a v).stkun = s.stkun := rfl
@[simp] theorem State.storeWord_psw (a : Nat) (v : Word) : (s.storeWord a v).psw = s.psw := rfl
@[simp] theorem State.storeWord_mdh (a : Nat) (v : Word) : (s.storeWord a v).mdh = s.mdh := rfl
@[simp] theorem State.storeWord_mdl (a : Nat) (v : Word) : (s.storeWord a v).mdl = s.mdl := rfl
@[simp] theorem State.storeWord_mdc (a : Nat) (v : Word) : (s.storeWord a v).mdc = s.mdc := rfl
@[simp] theorem State.storeWord_dpp0 (a : Nat) (v : Word) : (s.storeWord a v).dpp0 = s.dpp0 := rfl
@[simp] theorem State.storeWord_dpp1 (a : Nat) (v : Word) : (s.storeWord a v).dpp1 = s.dpp1 := rfl
@[simp] theorem State.storeWord_dpp2 (a : Nat) (v : Word) : (s.storeWord a v).dpp2 = s.dpp2 := rfl
@[simp] theorem State.storeWord_dpp3 (a : Nat) (v : Word) : (s.storeWord a v).dpp3 = s.dpp3 := rfl
@[simp] theorem State.storeWord_syscon (a : Nat) (v : Word) : (s.storeWord a v).syscon = s.syscon := rfl
@[simp] theorem State.storeWord_tfr (a : Nat) (v : Word) : (s.storeWord a v).tfr = s.tfr := rfl
@[simp] theorem State.storeWord_wdt (a : Nat) (v : Word) : (s.storeWord a v).wdt = s.wdt := rfl
@[simp] theorem State.storeWord_wdtcon (a : Nat) (v : Word) : (s.storeWord a v).wdtcon = s.wdtcon := rfl
@[simp] theorem State.storeWord_wdtEnabled (a : Nat) (v : Word) : (s.storeWord a v).wdtEnabled = s.wdtEnabled := rfl
@[simp] theorem State.storeWord_wdtOpen (a : Nat) (v : Word) : (s.storeWord a v).wdtOpen = s.wdtOpen := rfl
@[simp] theorem State.storeWord_wdtExact (a : Nat) (v : Word) : (s.storeWord a v).wdtExact = s.wdtExact := rfl
@[simp] theorem State.storeWord_initDone (a : Nat) (v : Word) : (s.storeWord a v).initDone = s.initDone := rfl
@[simp] theorem State.storeWord_runState (a : Nat) (v : Word) : (s.storeWord a v).runState = s.runState := rfl
@[simp] theorem State.storeWord_nmiPin (a : Nat) (v : Word) : (s.storeWord a v).nmiPin = s.nmiPin := rfl
@[simp] theorem State.storeWord_seq (a : Nat) (v : Word) : (s.storeWord a v).seq = s.seq := rfl
@[simp] theorem State.storeWord_pending (a : Nat) (v : Word) : (s.storeWord a v).pending = s.pending := rfl
@[simp] theorem State.storeWord_mem (a : Nat) (v : Word) : (s.storeWord a v).mem = (s.mem.set a (v.extractLsb' 0 8)).set (a + 1) (v.extractLsb' 8 8) := rfl
@[simp] theorem State.storeWord_frames (a : Nat) (v : Word) : (s.storeWord a v).frames = s.frames := rfl
@[simp] theorem State.storeWord_lastWrites (a : Nat) (v : Word) : (s.storeWord a v).lastWrites = s.lastWrites := rfl
@[simp] theorem State.storeWord_pswBefore (a : Nat) (v : Word) : (s.storeWord a v).pswBefore = s.pswBefore := rfl
@[simp] theorem State.storeWord_draws (a : Nat) (v : Word) : (s.storeWord a v).draws = s.draws := rfl

/-! ## `driveWord` -/

@[simp] theorem State.driveWord_cfg (a : Nat) (v : Word) : (s.driveWord a v).cfg = s.cfg := rfl
@[simp] theorem State.driveWord_ip (a : Nat) (v : Word) : (s.driveWord a v).ip = s.ip := rfl
@[simp] theorem State.driveWord_csp (a : Nat) (v : Word) : (s.driveWord a v).csp = s.csp := rfl
@[simp] theorem State.driveWord_cp (a : Nat) (v : Word) : (s.driveWord a v).cp = s.cp := rfl
@[simp] theorem State.driveWord_sp (a : Nat) (v : Word) : (s.driveWord a v).sp = s.sp := rfl
@[simp] theorem State.driveWord_stkov (a : Nat) (v : Word) : (s.driveWord a v).stkov = s.stkov := rfl
@[simp] theorem State.driveWord_stkun (a : Nat) (v : Word) : (s.driveWord a v).stkun = s.stkun := rfl
@[simp] theorem State.driveWord_psw (a : Nat) (v : Word) : (s.driveWord a v).psw = s.psw := rfl
@[simp] theorem State.driveWord_mdh (a : Nat) (v : Word) : (s.driveWord a v).mdh = s.mdh := rfl
@[simp] theorem State.driveWord_mdl (a : Nat) (v : Word) : (s.driveWord a v).mdl = s.mdl := rfl
@[simp] theorem State.driveWord_mdc (a : Nat) (v : Word) : (s.driveWord a v).mdc = s.mdc := rfl
@[simp] theorem State.driveWord_dpp0 (a : Nat) (v : Word) : (s.driveWord a v).dpp0 = s.dpp0 := rfl
@[simp] theorem State.driveWord_dpp1 (a : Nat) (v : Word) : (s.driveWord a v).dpp1 = s.dpp1 := rfl
@[simp] theorem State.driveWord_dpp2 (a : Nat) (v : Word) : (s.driveWord a v).dpp2 = s.dpp2 := rfl
@[simp] theorem State.driveWord_dpp3 (a : Nat) (v : Word) : (s.driveWord a v).dpp3 = s.dpp3 := rfl
@[simp] theorem State.driveWord_syscon (a : Nat) (v : Word) : (s.driveWord a v).syscon = s.syscon := rfl
@[simp] theorem State.driveWord_tfr (a : Nat) (v : Word) : (s.driveWord a v).tfr = s.tfr := rfl
@[simp] theorem State.driveWord_wdt (a : Nat) (v : Word) : (s.driveWord a v).wdt = s.wdt := rfl
@[simp] theorem State.driveWord_wdtcon (a : Nat) (v : Word) : (s.driveWord a v).wdtcon = s.wdtcon := rfl
@[simp] theorem State.driveWord_wdtEnabled (a : Nat) (v : Word) : (s.driveWord a v).wdtEnabled = s.wdtEnabled := rfl
@[simp] theorem State.driveWord_wdtOpen (a : Nat) (v : Word) : (s.driveWord a v).wdtOpen = s.wdtOpen := rfl
@[simp] theorem State.driveWord_wdtExact (a : Nat) (v : Word) : (s.driveWord a v).wdtExact = s.wdtExact := rfl
@[simp] theorem State.driveWord_initDone (a : Nat) (v : Word) : (s.driveWord a v).initDone = s.initDone := rfl
@[simp] theorem State.driveWord_runState (a : Nat) (v : Word) : (s.driveWord a v).runState = s.runState := rfl
@[simp] theorem State.driveWord_nmiPin (a : Nat) (v : Word) : (s.driveWord a v).nmiPin = s.nmiPin := rfl
@[simp] theorem State.driveWord_seq (a : Nat) (v : Word) : (s.driveWord a v).seq = s.seq := rfl
@[simp] theorem State.driveWord_pending (a : Nat) (v : Word) : (s.driveWord a v).pending = s.pending := rfl
@[simp] theorem State.driveWord_mem (a : Nat) (v : Word) : (s.driveWord a v).mem = (s.mem.set a (v.extractLsb' 0 8)).set (a + 1) (v.extractLsb' 8 8) := rfl
@[simp] theorem State.driveWord_frames (a : Nat) (v : Word) : (s.driveWord a v).frames = s.frames := rfl
@[simp] theorem State.driveWord_changed (a : Nat) (v : Word) : (s.driveWord a v).changed = s.changed := rfl
@[simp] theorem State.driveWord_lastWrites (a : Nat) (v : Word) : (s.driveWord a v).lastWrites = s.lastWrites := rfl
@[simp] theorem State.driveWord_pswBefore (a : Nat) (v : Word) : (s.driveWord a v).pswBefore = s.pswBefore := rfl
@[simp] theorem State.driveWord_draws (a : Nat) (v : Word) : (s.driveWord a v).draws = s.draws := rfl

end Sys2Proof.Machine
end

