-- ==== Sys2Proof/Laws/Ops.lean ====
section
/-! SUPPORT. What each shared operation can do, said once. -/

namespace Sys2Proof.Machine

/-! ## Results in sequence -/

/-- Two operations in sequence answer when both do. -/
theorem Res.bind_ok {α β : Type} (x : Res α) (f : α → Res β) (r : β) :
    (x >>= f) = .ok r ↔ ∃ a, x = .ok a ∧ f a = .ok r := by
  cases x with
  | error e => simp [bind, Except.bind]
  | ok a => simp [bind, Except.bind]

/-- An outcome of an instruction that is a next state: its operation answered, or a class B event was requested. -/
theorem finish_next (s t : State) (r : Res State) (h : finish s r = .next t) :
    r = .ok t ∨ ∃ e, r = .error (.trap e) ∧ s.cfg.trapEntry = .modelled ∧ t = s.requestClassB e := by
  cases r with
  | ok u => simp only [finish, Host.Outcome.next.injEq] at h; exact .inl (by rw [h])
  | error e =>
    cases e with
    | refuse r => simp [finish] at h
    | trap e =>
      simp only [finish, raiseClassB] at h
      split at h
      · cases h
      · split at h
        · cases h
        · cases h
          rename_i hm
          exact .inr ⟨e, rfl, hm, rfl⟩

/-- An operation that answers gives the outcome. -/
@[simp] theorem finish_ok (s t : State) : finish s (.ok t) = .next t := rfl

/-! ## Reads -/

/-- A read of a core register changes nothing, or clears MDRIU, or takes a draw. -/
theorem loadCore_state (r : CoreReg) (s : State) :
    (loadCore r s).2 = s ∨ (loadCore r s).2 = s.clearMdInUse ∨ (loadCore r s).2 = s.drawWord.2 := by
  cases r <;> simp [loadCore]
  split <;> simp

/-- A WORD read changes nothing, or clears MDRIU, or takes a draw. -/
theorem loadedW_state (pa : PhysAddr) (s : State) :
    (loadedW pa s).2 = s ∨ (loadedW pa s).2 = s.clearMdInUse ∨ (loadedW pa s).2 = s.drawWord.2 := by
  unfold loadedW
  split
  · exact loadCore_state _ s
  · exact .inr (.inr rfl)
  · exact .inl rfl

/-- A BYTE read changes nothing, or clears MDRIU, or takes a draw. -/
theorem loadedB_state (pa : PhysAddr) (s : State) :
    (loadedB pa s).2 = s ∨ (loadedB pa s).2 = s.clearMdInUse ∨ (loadedB pa s).2 = s.drawWord.2 := by
  unfold loadedB
  split
  · exact loadCore_state _ s
  · exact .inr (.inr rfl)
  · exact .inl rfl

/-- A WORD read answers when the address can be accessed. -/
theorem memReadW_ok (pa : PhysAddr) (s : State) (x : Word × State) :
    memReadW pa s = .ok x ↔ accessStop .word pa s.cfg = none ∧ loadedW pa s = x := by
  unfold memReadW
  cases accessStop .word pa s.cfg <;> simp

/-- A BYTE read answers when the address can be accessed. -/
theorem memReadB_ok (pa : PhysAddr) (s : State) (x : Byte × State) :
    memReadB pa s = .ok x ↔ accessStop .byte pa s.cfg = none ∧ loadedB pa s = x := by
  unfold memReadB
  cases accessStop .byte pa s.cfg <;> simp

/-! ## Writes -/

/-- A core register takes a value unless it refuses it. -/
theorem storeCore_ok (r : CoreReg) (v : Word) (s t : State) :
    storeCore r v s = .ok t ↔ coreRefusal r v s = none ∧ storedCore r v s = t := by
  unfold storeCore
  cases coreRefusal r v s <;> simp

/-- A WORD write answers when nothing stops it. -/
theorem memWriteW_ok (pa : PhysAddr) (v : Word) (s t : State) :
    memWriteW pa v s = .ok t ↔ writeStop .word pa v s = none ∧ storedW pa v s = t := by
  unfold memWriteW
  cases writeStop .word pa v s <;> simp

/-- A BYTE write answers when nothing stops it. -/
theorem memWriteB_ok (pa : PhysAddr) (v : Byte) (s t : State) :
    memWriteB pa v s = .ok t ↔ writeStop .byte pa (wordOfByte pa.toNat v) s = none ∧ storedB pa v s = t := by
  unfold memWriteB
  cases writeStop .byte pa (wordOfByte pa.toNat v) s <;> simp

/-- A WORD destination written. -/
theorem writeDstW_ok (pa : PhysAddr) (v : Word) (s t : State) :
    writeDstW pa v s = .ok t ↔ writeStop .word pa v s = none ∧ (storedW pa v s).noteWrite pa s = t := by
  simp [writeDstW, Res.bind_ok, memWriteW_ok]

/-- A BYTE destination written. -/
theorem writeDstB_ok (pa : PhysAddr) (v : Byte) (s t : State) :
    writeDstB pa v s = .ok t ↔
      writeStop .byte pa (wordOfByte pa.toNat v) s = none ∧ (storedB pa v s).noteWrite pa s = t := by
  simp [writeDstB, Res.bind_ok, memWriteB_ok]

/-- A WORD that can be accessed lies at an even address. -/
theorem accessStop_word_even (pa : PhysAddr) (c : Config) (h : accessStop .word pa c = none) : pa.toNat % 2 = 0 := by
  unfold accessStop at h
  split at h
  · cases h
  · rename_i hn
    have hbit : pa.getLsbD 0 = false := by simpa using hn
    have := BitVec.getLsbD_eq_getElem (x := pa) (i := 0) (by omega)
    simp [BitVec.getLsbD, Nat.testBit_zero] at hbit
    omega

/-- Nothing can be written where nothing can be accessed. -/
theorem writeStop_none (w : Width) (pa : PhysAddr) (v : Word) (s : State) (h : writeStop w pa v s = none) :
    accessStop w pa s.cfg = none ∧ classify s.cfg pa ≠ .rom ∧
      ∀ r, classify s.cfg pa = .core r → coreRefusal r v s = none := by
  unfold writeStop at h
  split at h
  · cases h
  · rename_i ha
    refine ⟨ha, ?_, ?_⟩
    · intro hc
      simp [hc] at h
    · intro r hc
      simpa [hc] using h

/-- A destination written with its post-increment: the write answers, and so does the increment unless it is lost. -/
theorem putDstW_ok (dst : Loc) (pa : PhysAddr) (v : Word) (s t : State) :
    putDstW dst pa v s = .ok t ↔ ∃ u, writeDstW pa v s = .ok u ∧
      (dst.ownPointer pa s = true ∧ u = t ∨ dst.ownPointer pa s = false ∧ dst.after .word u = .ok t) := by
  simp only [putDstW, Res.bind_ok]
  cases dst.ownPointer pa s <;> simp

/-- The same for a BYTE. -/
theorem putDstB_ok (dst : Loc) (pa : PhysAddr) (v : Byte) (s t : State) :
    putDstB dst pa v s = .ok t ↔ ∃ u, writeDstB pa v s = .ok u ∧
      (dst.ownPointer pa s = true ∧ u = t ∨ dst.ownPointer pa s = false ∧ dst.after .byte u = .ok t) := by
  simp only [putDstB, Res.bind_ok]
  cases dst.ownPointer pa s <;> simp

/-- The flags of an instruction are lost where its destination is PSW, else they are written. -/
theorem flagsLast_eq (s : State) (pa : PhysAddr) (f : Flags) :
    s.flagsLast pa f = if classify s.cfg pa = .core .psw then s else s.setFlags f := by
  unfold State.flagsLast
  split <;> simp_all

/-! ## Trap entry and return -/

/-- A return that answers matches the SGTDIS its entry met, and pops what it should. -/
theorem returnFromTrap_ok (s t : State) :
    returnFromTrap s = .ok t ↔ frameStop s = none ∧ ∃ ip a b psw c,
      pop s.dropFrame = .ok (ip, a) ∧ popSegment (a.jumpTo ip) = .ok b ∧ pop b = .ok (psw, c) ∧
        storeCore .psw psw c = .ok t := by
  unfold returnFromTrap
  split
  · simp [*]
  · rename_i h
    simp only [Res.bind_ok, h, true_and, Prod.exists]
    constructor
    · rintro ⟨ip, a, ha, b, hb, psw, c, hc, h⟩
      exact ⟨ip, a, b, psw, c, ha, hb, hc, h⟩
    · rintro ⟨ip, a, b, psw, c, ha, hb, hc, h⟩
      exact ⟨ip, a, ha, b, hb, psw, c, hc, h⟩

/-! ## Reset -/

/-- A reset leaves the memory canonical and inside the address space. -/
theorem memoryAfterReset_wf (c : Config) (m : Memory) (drawn : List Host.Cell) (hm : m.wf = true)
    (hb : ∀ x ∈ m, x.1 < 2 ^ 24) :
    (memoryAfterReset c m drawn).wf = true ∧ ∀ x ∈ memoryAfterReset c m drawn, x.1 < 2 ^ 24 := by
  unfold memoryAfterReset
  have h1 := Memory.canonicalFrom_filter m (fun x => decide (classify c (BitVec.ofNat 24 x.1) = .rom)) hm
  have h2 : ∀ x ∈ m.filter (fun x => decide (classify c (BitVec.ofNat 24 x.1) = .rom)), x.1 < 2 ^ 24 :=
    fun x hx => hb x (List.mem_of_mem_filter hx)
  generalize m.filter (fun x => decide (classify c (BitVec.ofNat 24 x.1) = .rom)) = k at h1 h2
  induction drawn generalizing k with
  | nil => exact ⟨h1, h2⟩
  | cons y drawn ih =>
    simp only [List.foldl_cons]
    split
    · rename_i hy
      refine ih _ (Memory.set_wf k _ _ h1) fun x hx => ?_
      rcases Memory.mem_set k _ _ x hx with h | h
      · exact h2 x h
      · omega
    · exact ih k h1 h2

/-- A reset keeps what ROM holds. -/
theorem memoryAfterReset_rom (c : Config) (m : Memory) (drawn : List Host.Cell) (a : Nat)
    (ha : classify c (BitVec.ofNat 24 a) = .rom) : (memoryAfterReset c m drawn).get a = m.get a := by
  unfold memoryAfterReset
  rw [← Memory.get_filter m (fun x => decide (classify c (BitVec.ofNat 24 x.1) = .rom)) a (by simp [ha])]
  generalize m.filter (fun x => decide (classify c (BitVec.ofNat 24 x.1) = .rom)) = k
  induction drawn generalizing k with
  | nil => rfl
  | cons y drawn ih =>
    simp only [List.foldl_cons]
    split
    · rename_i hy
      rw [ih, Memory.get_set_other]
      rintro rfl
      rw [ha] at hy
      cases hy.2
    · exact ih k

/-! ## The register file (10_state.md R22) -/

/-- With `memory_mapped` no address is taken out of the map. -/
theorem inFile_memoryMapped {c : Config} (h : c.gprModel = .memoryMapped) (pa : PhysAddr) : inFile c pa = false := by
  simp [inFile, h]

/-- What keeps the file is as RAM. -/
theorem classify_inFile {c : Config} {pa : PhysAddr} (h : inFile c pa = true) : classify c pa = .ram := by
  simp [classify, h]

end Sys2Proof.Machine
end

