-- ==== Sys2Proof/Laws/Bank.lean ====
section
/-! SUPPORT. With the register bank in RAM the general registers are plain memory: every operand form, said once. -/

namespace Sys2Proof.Machine

/-- The bank depends on CP and the parameters only. -/
theorem BankInRam.congr {s t : State} (h : BankInRam s) (hcp : t.cp = s.cp) (hcfg : t.cfg = s.cfg) : BankInRam t := by
  unfold BankInRam at *
  rw [hcp, hcfg]
  exact h

/-- An address in segment 0. -/
theorem segmentZero_toNat (x : Word) : BitVec.toNat (w := 24) ((0 : Byte) ++ x) = x.toNat := by
  show BitVec.toNat (w := 8 + 16) ((0 : Byte) ++ x) = x.toNat
  rw [BitVec.toNat_append]
  simp

/-- The address of `Rw[n]` does not wrap. -/
theorem gprAddr_toNat {s : State} (h : BankInRam s) (n : BitVec 4) :
    (gprAddr s n).toNat = s.cp.toNat + 2 * n.toNat := by
  have h2 := h.2.1
  have hn := n.isLt
  rw [gprAddr, segmentZero_toNat, BitVec.toNat_add, BitVec.toNat_mul, BitVec.toNat_setWidth]
  simp
  omega

/-- The address of `Rb[k]` does not wrap. -/
theorem gprByteAddr_toNat {s : State} (h : BankInRam s) (k : BitVec 4) :
    (gprByteAddr s k).toNat = s.cp.toNat + k.toNat := by
  have h2 := h.2.1
  have hn := k.isLt
  rw [gprByteAddr, segmentZero_toNat, BitVec.toNat_add, BitVec.toNat_setWidth]
  omega

/-- A general register's WORD is RAM. -/
theorem classify_gprAddr {s : State} (h : BankInRam s) (n : BitVec 4) : classify s.cfg (gprAddr s n) = .ram := by
  have hk := h.2.2 (2 * n.toNat) (by have := n.isLt; omega)
  rwa [show BitVec.ofNat 24 (s.cp.toNat + 2 * n.toNat) = gprAddr s n by
    rw [← gprAddr_toNat h n, BitVec.ofNat_toNat, BitVec.setWidth_eq]] at hk

/-- A byte register's byte is RAM. -/
theorem classify_gprByteAddr {s : State} (h : BankInRam s) (k : BitVec 4) :
    classify s.cfg (gprByteAddr s k) = .ram := by
  have hk := h.2.2 k.toNat (by have := k.isLt; omega)
  rwa [show BitVec.ofNat 24 (s.cp.toNat + k.toNat) = gprByteAddr s k by
    rw [← gprByteAddr_toNat h k, BitVec.ofNat_toNat, BitVec.setWidth_eq]] at hk

/-- A general register lies at an even address. -/
theorem gprAddr_even {s : State} (h : BankInRam s) (n : BitVec 4) : (gprAddr s n).getLsbD 0 = false := by
  have ht := gprAddr_toNat h n
  have hcp := h.1
  simp only [BitVec.getLsbD, Nat.testBit_zero, decide_eq_false_iff_not] at hcp ⊢
  omega

/-- A general register can be accessed. -/
theorem accessStop_gpr {s : State} (h : BankInRam s) (n : BitVec 4) : accessStop .word (gprAddr s n) s.cfg = none := by
  simp [accessStop, classify_gprAddr h n]
  simpa using gprAddr_even h n

/-- A byte register can be accessed. -/
theorem accessStop_gprByte {s : State} (h : BankInRam s) (k : BitVec 4) :
    accessStop .byte (gprByteAddr s k) s.cfg = none := by
  simp [accessStop, classify_gprByteAddr h k]

/-- A general register can be written. -/
theorem writeStop_gpr {s : State} (h : BankInRam s) (n : BitVec 4) (v : Word) :
    writeStop .word (gprAddr s n) v s = none := by
  simp [writeStop, accessStop_gpr h n, classify_gprAddr h n]

/-- A read of a general register. -/
theorem readGpr_bank {s : State} (h : BankInRam s) (n : BitVec 4) : readGpr n s = .ok (gprWord n s, s) := by
  simp [readGpr, memReadW, accessStop_gpr h n, loadedW, classify_gprAddr h n, gprWord]

/-- A read of a byte register. -/
theorem readGprByte_bank {s : State} (h : BankInRam s) (k : BitVec 4) :
    memReadB (gprByteAddr s k) s = .ok (gprByte k s, s) := by
  simp [memReadB, accessStop_gprByte h k, loadedB, classify_gprByteAddr h k, gprByte]

/-- A write of a general register. -/
theorem writeGpr_bank {s : State} (h : BankInRam s) (n : BitVec 4) (v : Word) : writeGpr n v s = .ok (s.setGpr n v) := by
  simp [writeGpr, memWriteW, writeStop_gpr h n v, storedW, classify_gprAddr h n, State.setGpr]

/-- A general register as a destination. -/
theorem writeDstW_gpr {s : State} (h : BankInRam s) (n : BitVec 4) (v : Word) :
    writeDstW (gprAddr s n) v s = .ok (s.setGpr n v) := by
  rw [writeDstW_ok]
  refine ⟨writeStop_gpr h n v, ?_⟩
  simp [State.noteWrite, storedW, classify_gprAddr h n, State.setGpr]

/-- A byte register as a destination. -/
theorem writeDstB_gpr {s : State} (h : BankInRam s) (k : BitVec 4) (v : Byte) :
    writeDstB (gprByteAddr s k) v s = .ok (s.storeByte (gprByteAddr s k).toNat v) := by
  rw [writeDstB_ok]
  refine ⟨?_, ?_⟩
  · simp [writeStop, accessStop_gprByte h k, classify_gprByteAddr h k]
  · simp [State.noteWrite, storedB, classify_gprByteAddr h k]

/-- The address of every operand form. -/
theorem addr_bank {s : State} (h : BankInRam s) (l : Loc) (w : Width) : l.addr w s = .ok (effAddr l w s, s) := by
  cases l <;> simp [Loc.addr, effAddr, readGpr_bank h, bind, Except.bind]

/-- The pre-decrement. -/
theorem before_bank {s : State} (h : BankInRam s) (l : Loc) (w : Width) : l.before w s = .ok (decremented l w s) := by
  cases l <;> simp [Loc.before, decremented, readGpr_bank h, writeGpr_bank h, bind, Except.bind]

/-- The post-increment. -/
theorem after_bank {s : State} (h : BankInRam s) (l : Loc) (w : Width) : l.after w s = .ok (incremented l w s) := by
  cases l <;> simp [Loc.after, incremented, readGpr_bank h, writeGpr_bank h, bind, Except.bind]

/-- No pointer of the bank lies over a core register. -/
theorem ownPointer_bank {s : State} (h : BankInRam s) (l : Loc) (pa : PhysAddr) : l.ownPointer pa s = false := by
  cases l <;> simp [Loc.ownPointer, classify_gprAddr h]

/-! ## What reads and writes depend on -/

/-- A WORD read changes MDC and the draws only. -/
theorem loadedW_same (pa : PhysAddr) (s : State) :
    (loadedW pa s).2 = { s with mdc := (loadedW pa s).2.mdc, draws := (loadedW pa s).2.draws } := by
  rcases loadedW_state pa s with h | h | h <;> rw [h] <;> rfl

/-- A BYTE read changes MDC and the draws only. -/
theorem loadedB_same (pa : PhysAddr) (s : State) :
    (loadedB pa s).2 = { s with mdc := (loadedB pa s).2.mdc, draws := (loadedB pa s).2.draws } := by
  rcases loadedB_state pa s with h | h | h <;> rw [h] <;> rfl

/-- The address of an operand does not depend on MDC, the draws and the flags. -/
theorem effAddr_congr (l : Loc) (w : Width) (s : State) (mdc : Word) (d : Nat) (f : Flags) :
    effAddr l w { s with mdc := mdc, draws := d } = effAddr l w s ∧ effAddr l w (s.setFlags f) = effAddr l w s := by
  cases l <;> exact ⟨rfl, rfl⟩

/-- Nor does what stops a source operand. -/
theorem sourceStop_congr {k : Nat} (src : Src k) (w : Width) (s : State) (mdc : Word) (d : Nat) :
    sourceStop w src { s with mdc := mdc, draws := d } = sourceStop w src s := by
  cases src with
  | imm v => rfl
  | loc l => cases l <;> rfl

/-- What stops a write depends on the parameters and RSTOUT# only. -/
theorem writeStop_congr (w : Width) (pa : PhysAddr) (v : Word) {s t : State} (hc : t.cfg = s.cfg)
    (hd : t.initDone = s.initDone) : writeStop w pa v t = writeStop w pa v s := by
  unfold writeStop
  rw [hc]
  split
  · rfl
  · split <;> simp [coreRefusal, hd, hc]

/-- A WORD source operand changes MDC, the draws, and with its pointer the memory. -/
theorem sourceW_same (src : Src 16) (s : State) :
    (sourceW src s).2 = { s with
      mdc := (sourceW src s).2.mdc, draws := (sourceW src s).2.draws, mem := (sourceW src s).2.mem,
      changed := (sourceW src s).2.changed } := by
  cases src with
  | imm v => rfl
  | loc l =>
    have h := loadedW_same (effAddr l .word s) s
    cases l <;> simp only [sourceW, incremented] <;> (rw [h]; try rfl)

/-- A BYTE source operand changes MDC, the draws, and with its pointer the memory. -/
theorem sourceB_same (src : Src 8) (s : State) :
    (sourceB src s).2 = { s with
      mdc := (sourceB src s).2.mdc, draws := (sourceB src s).2.draws, mem := (sourceB src s).2.mem,
      changed := (sourceB src s).2.changed } := by
  cases src with
  | imm v => rfl
  | loc l =>
    have h := loadedB_same (effAddr l .byte s) s
    cases l <;> simp only [sourceB, incremented] <;> (rw [h]; try rfl)

/-- A WORD read keeps the bank and every address. -/
theorem loadedW_cp_cfg (pa : PhysAddr) (s : State) :
    (loadedW pa s).2.cp = s.cp ∧ (loadedW pa s).2.cfg = s.cfg ∧ (loadedW pa s).2.mem = s.mem := by
  rcases loadedW_state pa s with h | h | h <;> rw [h] <;> exact ⟨rfl, rfl, rfl⟩

/-- A BYTE read keeps the bank and every address. -/
theorem loadedB_cp_cfg (pa : PhysAddr) (s : State) :
    (loadedB pa s).2.cp = s.cp ∧ (loadedB pa s).2.cfg = s.cfg ∧ (loadedB pa s).2.mem = s.mem := by
  rcases loadedB_state pa s with h | h | h <;> rw [h] <;> exact ⟨rfl, rfl, rfl⟩

/-- A WORD source operand is read when nothing stops it. -/
theorem readSrcW_bank {s : State} (h : BankInRam s) (src : Src 16) (hs : sourceStop .word src s = none) :
    readSrcW src s = .ok (sourceW src s) := by
  cases src with
  | imm v => rfl
  | loc l =>
    have hk := loadedW_cp_cfg (effAddr l .word s) s
    have hb : BankInRam (loadedW (effAddr l .word s) s).2 := h.congr hk.1 hk.2.1
    simp only [sourceStop] at hs
    simp [readSrcW, addr_bank h, memReadW, hs, after_bank hb, bind, Except.bind, sourceW]

/-- A BYTE source operand is read when nothing stops it. -/
theorem readSrcB_bank {s : State} (h : BankInRam s) (src : Src 8) (hs : sourceStop .byte src s = none) :
    readSrcB src s = .ok (sourceB src s) := by
  cases src with
  | imm v => rfl
  | loc l =>
    have hk := loadedB_cp_cfg (effAddr l .byte s) s
    have hb : BankInRam (loadedB (effAddr l .byte s) s).2 := h.congr hk.1 hk.2.1
    simp only [sourceStop] at hs
    simp [readSrcB, addr_bank h, memReadB, hs, after_bank hb, bind, Except.bind, sourceB]

/-! ## The register file (10_state.md R22) -/

/-- With `memory_mapped` nothing is refused for the file's sake. -/
theorem fileStop_memoryMapped {s : State} (h : s.cfg.gprModel = .memoryMapped) (l : List PhysAddr) :
    fileStop l s = none := by
  simp [fileStop, h]

/-- With `abstract_file` and CP as reset left it, a step is let through iff it reaches no address of the bank. -/
theorem fileStop_none {s : State} (h : s.cfg.gprModel = .abstractFile) (hc : s.cp = fileBase s.cfg)
    (l : List PhysAddr) : fileStop l s = none ↔ ∀ pa ∈ l, inFile s.cfg pa = false := by
  simp [fileStop, h, hc]

end Sys2Proof.Machine
end

