-- ==== Sys2Proof/Laws/Encoding.lean ====
section
/-! SUPPORT. The fields of an encoding read back (30_encoding.md R102, R103). -/

namespace Sys2Proof

@[simp] theorem lo4_append (a b : BitVec 4) : lo4 (a ++ b) = b := by revert a b; decide

@[simp] theorem hi4_append (a b : BitVec 4) : hi4 (a ++ b) = a := by revert a b; decide

/-- The two nibbles make the byte. -/
theorem nibbles_append (b : Byte) : hi4 b ++ lo4 b = b := by revert b; decide

@[simp] theorem field16_bytes (w : Word) : field16 (lowByte w) (highByte w) = w := by
  unfold field16 lowByte highByte
  rw [BitVec.extractLsb'_append_extractLsb'_eq_extractLsb' (by omega)]
  simp

@[simp] theorem lowByte_field16 (b2 b3 : Byte) : lowByte (field16 b2 b3) = b2 := by
  unfold field16 lowByte
  rw [BitVec.extractLsb'_append_eq_of_add_le (by omega)]
  simp

@[simp] theorem highByte_field16 (b2 b3 : Byte) : highByte (field16 b2 b3) = b3 := by
  unfold field16 highByte
  rw [BitVec.extractLsb'_append_eq_of_le (by omega)]
  simp

@[simp] theorem condOfBits_toBits (cc : Cond) : Cond.ofBits cc.toBits = cc := by cases cc <;> rfl

@[simp] theorem condToBits_ofBits (b : BitVec 4) : (Cond.ofBits b).toBits = b := by revert b; decide

/-- The operand byte `n:0###`. -/
theorem decodeSub_data3 (n : BitVec 4) (d : BitVec 3) (x y : BitVec 4 → BitVec 2 → Instr)
    (z : BitVec 4 → BitVec 3 → Instr) : decodeSub (n ++ 0#1 ++ d) x y z = z n d := by
  have h : ∀ (n : BitVec 4) (d : BitVec 3), (n ++ 0#1 ++ d).extractLsb' 3 1 = 0#1 ∧ hi4 (n ++ 0#1 ++ d) = n ∧
      (n ++ 0#1 ++ d).extractLsb' 0 3 = d := by decide
  obtain ⟨h1, h2, h3⟩ := h n d
  rw [decodeSub, if_pos h1]
  exact congr (congrArg _ h2) h3

/-- The operand byte `n:10ii`. -/
theorem decodeSub_ind (n : BitVec 4) (i : BitVec 2) (x y : BitVec 4 → BitVec 2 → Instr)
    (z : BitVec 4 → BitVec 3 → Instr) : decodeSub (n ++ 2#2 ++ i) x y z = x n i := by
  have h : ∀ (n : BitVec 4) (i : BitVec 2), (n ++ 2#2 ++ i).extractLsb' 3 1 ≠ 0#1 ∧
      (n ++ 2#2 ++ i).extractLsb' 2 1 = 0#1 ∧ hi4 (n ++ 2#2 ++ i) = n ∧ (n ++ 2#2 ++ i).extractLsb' 0 2 = i := by decide
  obtain ⟨h1, h2, h3, h4⟩ := h n i
  rw [decodeSub, if_neg h1, if_pos h2]
  exact congr (congrArg _ h3) h4

/-- The operand byte `n:11ii`. -/
theorem decodeSub_indInc (n : BitVec 4) (i : BitVec 2) (x y : BitVec 4 → BitVec 2 → Instr)
    (z : BitVec 4 → BitVec 3 → Instr) : decodeSub (n ++ 3#2 ++ i) x y z = y n i := by
  have h : ∀ (n : BitVec 4) (i : BitVec 2), (n ++ 3#2 ++ i).extractLsb' 3 1 ≠ 0#1 ∧
      (n ++ 3#2 ++ i).extractLsb' 2 1 ≠ 0#1 ∧ hi4 (n ++ 3#2 ++ i) = n ∧ (n ++ 3#2 ++ i).extractLsb' 0 2 = i := by decide
  obtain ⟨h1, h2, h3, h4⟩ := h n i
  rw [decodeSub, if_neg h1, if_neg h2]
  exact congr (congrArg _ h3) h4

end Sys2Proof
end

