-- ==== Sys2Proof/Laws/Keeps.lean ====
section
/-! SUPPORT. A property of states that the basic updates keep is kept by every operation made of them, so by every
instruction but those whose own update it does not speak of. -/

namespace Sys2Proof.Machine

/-- The property is kept by each update the data instructions are made of. -/
structure Stable (P : State → Prop) : Prop where
  ip : ∀ s v, P s → P { s with ip := v }
  flags : ∀ s f, P s → P (State.setFlags s f)
  draws : ∀ s n, P s → P { s with draws := n }
  mdc : ∀ s v, P s → P { s with mdc := v }
  md : ∀ s hi lo, P s → P (State.setMd s hi lo)
  push : ∀ s, P s → P { s with sp := s.sp - 2 }
  pop : ∀ s, P s → P { s with sp := s.sp + 2 }
  core : ∀ r v s, coreRefusal r v s = none → P s → P (storedCore r v s)
  store : ∀ s a v, a < 2 ^ 24 → P s → P (State.storeByte s a v)
  drive : ∀ s a v, a < 2 ^ 24 → P s → P (State.driveByte s a v)
  note : ∀ s l p, P s → P { s with lastWrites := l, pswBefore := p }
  overflow : ∀ s, P s → P (State.requestStackOverflow s)
  underflow : ∀ s, P s → P (State.requestStackUnderflow s)

/-- The property is kept, besides, by the updates of transfers between segments, trap entry and trap return. -/
structure StableFar (P : State → Prop) : Prop extends Stable P where
  csp : ∀ s v, P s → P { s with csp := maskSeg s.cfg.device v }
  cspClear : ∀ s, P s → P { s with csp := 0 }
  level : ∀ s l, P s → P { s with psw := withIlvl s.cfg.psw s.psw l }
  frames : ∀ s l, P s → P { s with frames := l }

variable {P : State → Prop}

/-! ## Accesses -/

theorem loadedW_keeps (hP : Stable P) (pa : PhysAddr) (s : State) (hs : P s) : P (loadedW pa s).2 := by
  rcases loadedW_state pa s with h | h | h <;> rw [h]
  · exact hs
  · exact hP.mdc s _ hs
  · exact hP.draws s _ hs

theorem loadedB_keeps (hP : Stable P) (pa : PhysAddr) (s : State) (hs : P s) : P (loadedB pa s).2 := by
  rcases loadedB_state pa s with h | h | h <;> rw [h]
  · exact hs
  · exact hP.mdc s _ hs
  · exact hP.draws s _ hs

theorem memReadW_keeps (hP : Stable P) {pa : PhysAddr} {s : State} {x : Word × State} (h : memReadW pa s = .ok x)
    (hs : P s) : P x.2 := by
  rw [← ((memReadW_ok pa s x).1 h).2]
  exact loadedW_keeps hP pa s hs

theorem memReadB_keeps (hP : Stable P) {pa : PhysAddr} {s : State} {x : Byte × State} (h : memReadB pa s = .ok x)
    (hs : P s) : P x.2 := by
  rw [← ((memReadB_ok pa s x).1 h).2]
  exact loadedB_keeps hP pa s hs

theorem storeWord_keeps (hP : Stable P) (s : State) (a : Nat) (v : Word) (ha : a + 1 < 2 ^ 24) (hs : P s) :
    P (s.storeWord a v) :=
  hP.store _ _ _ ha (hP.store _ _ _ (by omega) hs)

theorem driveWord_keeps (hP : Stable P) (s : State) (a : Nat) (v : Word) (ha : a + 1 < 2 ^ 24) (hs : P s) :
    P (s.driveWord a v) :=
  hP.drive _ _ _ ha (hP.drive _ _ _ (by omega) hs)

theorem storedW_keeps (hP : Stable P) (pa : PhysAddr) (v : Word) (s : State) (h : writeStop .word pa v s = none)
    (hs : P s) : P (storedW pa v s) := by
  obtain ⟨ha, -, hcore⟩ := writeStop_none _ _ _ _ h
  have heven := accessStop_word_even pa _ ha
  have hlt := pa.isLt
  unfold storedW
  split
  · rename_i r hr
    exact hP.core r v s (hcore r hr) hs
  · exact driveWord_keeps hP s _ v (by omega) hs
  · exact storeWord_keeps hP s _ v (by omega) hs

theorem storedB_keeps (hP : Stable P) (pa : PhysAddr) (v : Byte) (s : State)
    (h : writeStop .byte pa (wordOfByte pa.toNat v) s = none) (hs : P s) : P (storedB pa v s) := by
  obtain ⟨-, -, hcore⟩ := writeStop_none _ _ _ _ h
  have hlt := pa.isLt
  unfold storedB
  split
  · rename_i r hr
    exact hP.core r _ s (hcore r hr) hs
  · split
    · exact driveWord_keeps hP s _ _ (by omega) hs
    · exact hP.drive s _ v hlt hs
  · exact hP.store s _ v hlt hs

theorem noteWrite_keeps (hP : Stable P) (pa : PhysAddr) (b s : State) (hs : P s) : P (s.noteWrite pa b) := by
  unfold State.noteWrite
  split
  · exact hP.note s _ _ hs
  · exact hP.note s _ s.pswBefore hs
  · exact hs

theorem memWriteW_keeps (hP : Stable P) {pa : PhysAddr} {v : Word} {s t : State} (h : memWriteW pa v s = .ok t)
    (hs : P s) : P t := by
  obtain ⟨hw, rfl⟩ := (memWriteW_ok pa v s t).1 h
  exact storedW_keeps hP pa v s hw hs

theorem writeDstW_keeps (hP : Stable P) {pa : PhysAddr} {v : Word} {s t : State} (h : writeDstW pa v s = .ok t)
    (hs : P s) : P t := by
  obtain ⟨hw, rfl⟩ := (writeDstW_ok pa v s t).1 h
  exact noteWrite_keeps hP pa s _ (storedW_keeps hP pa v s hw hs)

theorem writeDstB_keeps (hP : Stable P) {pa : PhysAddr} {v : Byte} {s t : State} (h : writeDstB pa v s = .ok t)
    (hs : P s) : P t := by
  obtain ⟨hw, rfl⟩ := (writeDstB_ok pa v s t).1 h
  exact noteWrite_keeps hP pa s _ (storedB_keeps hP pa v s hw hs)

/-! ## Operands -/

theorem addr_keeps (hP : Stable P) {l : Loc} {w : Width} {s : State} {x : PhysAddr × State}
    (h : l.addr w s = .ok x) (hs : P s) : P x.2 := by
  cases l
  case ind | indInc | indDec | indDisp =>
    simp only [Loc.addr, Res.bind_ok] at h
    obtain ⟨⟨p, u⟩, hr, h⟩ := h
    cases h
    exact memReadW_keeps hP hr hs
  all_goals
    simp only [Loc.addr, Except.ok.injEq] at h
    subst h
    exact hs

theorem before_keeps (hP : Stable P) {l : Loc} {w : Width} {s t : State} (h : l.before w s = .ok t) (hs : P s) : P t := by
  cases l
  case indDec =>
    simp only [Loc.before, Res.bind_ok] at h
    obtain ⟨⟨p, u⟩, hr, h⟩ := h
    exact memWriteW_keeps hP h (memReadW_keeps hP hr hs)
  all_goals
    simp only [Loc.before, Except.ok.injEq] at h
    subst h
    exact hs

theorem after_keeps (hP : Stable P) {l : Loc} {w : Width} {s t : State} (h : l.after w s = .ok t) (hs : P s) : P t := by
  cases l
  case indInc =>
    simp only [Loc.after, Res.bind_ok] at h
    obtain ⟨⟨p, u⟩, hr, h⟩ := h
    exact memWriteW_keeps hP h (memReadW_keeps hP hr hs)
  all_goals
    simp only [Loc.after, Except.ok.injEq] at h
    subst h
    exact hs

theorem readSrcW_keeps (hP : Stable P) {src : Src 16} {s : State} {x : Word × State} (h : readSrcW src s = .ok x)
    (hs : P s) : P x.2 := by
  cases src with
  | imm v => cases h; exact hs
  | loc l =>
    simp only [readSrcW, Res.bind_ok] at h
    obtain ⟨⟨pa, u⟩, ha, ⟨v, u'⟩, hr, t, hb, h⟩ := h
    cases h
    exact after_keeps hP hb (memReadW_keeps hP hr (addr_keeps hP ha hs))

theorem readSrcB_keeps (hP : Stable P) {src : Src 8} {s : State} {x : Byte × State} (h : readSrcB src s = .ok x)
    (hs : P s) : P x.2 := by
  cases src with
  | imm v => cases h; exact hs
  | loc l =>
    simp only [readSrcB, Res.bind_ok] at h
    obtain ⟨⟨pa, u⟩, ha, ⟨v, u'⟩, hr, t, hb, h⟩ := h
    cases h
    exact after_keeps hP hb (memReadB_keeps hP hr (addr_keeps hP ha hs))

theorem putDstW_keeps (hP : Stable P) {dst : Loc} {pa : PhysAddr} {v : Word} {s t : State}
    (h : putDstW dst pa v s = .ok t) (hs : P s) : P t := by
  obtain ⟨u, hu, ⟨-, rfl⟩ | ⟨-, hk⟩⟩ := (putDstW_ok _ _ _ _ _).1 h
  · exact writeDstW_keeps hP hu hs
  · exact after_keeps hP hk (writeDstW_keeps hP hu hs)

theorem putDstB_keeps (hP : Stable P) {dst : Loc} {pa : PhysAddr} {v : Byte} {s t : State}
    (h : putDstB dst pa v s = .ok t) (hs : P s) : P t := by
  obtain ⟨u, hu, ⟨-, rfl⟩ | ⟨-, hk⟩⟩ := (putDstB_ok _ _ _ _ _).1 h
  · exact writeDstB_keeps hP hu hs
  · exact after_keeps hP hk (writeDstB_keeps hP hu hs)

theorem flagsLast_keeps (hP : Stable P) (pa : PhysAddr) (f : Flags) (s : State) (hs : P s) : P (s.flagsLast pa f) := by
  rw [flagsLast_eq]
  split
  · exact hs
  · exact hP.flags s f hs

/-! ## The stack -/

theorem checkOverflow_keeps (hP : Stable P) (s : State) (hs : P s) : P s.checkOverflow := by
  unfold State.checkOverflow
  split
  · exact hP.overflow s hs
  · exact hs

theorem checkUnderflow_keeps (hP : Stable P) (s : State) (hs : P s) : P s.checkUnderflow := by
  unfold State.checkUnderflow
  split
  · exact hP.underflow s hs
  · exact hs

theorem push_keeps (hP : Stable P) {v : Word} {s t : State} (h : push v s = .ok t) (hs : P s) : P t := by
  simp only [push, Res.bind_ok, Except.ok.injEq] at h
  obtain ⟨u, hw, rfl⟩ := h
  exact checkOverflow_keeps hP u (memWriteW_keeps hP hw (hP.push s hs))

theorem pop_keeps (hP : Stable P) {s : State} {x : Word × State} (h : pop s = .ok x) (hs : P s) : P x.2 := by
  simp only [pop, Res.bind_ok] at h
  obtain ⟨⟨v, u⟩, hr, h⟩ := h
  cases h
  exact checkUnderflow_keeps hP _ (hP.pop u (memReadW_keeps hP hr hs))

theorem pushSegment_keeps (hP : StableFar P) {s t : State} (h : pushSegment s = .ok t) (hs : P s) : P t := by
  unfold pushSegment at h
  split at h
  · cases h; exact hs
  · simp only [Res.bind_ok, Except.ok.injEq] at h
    obtain ⟨u, hu, rfl⟩ := h
    exact hP.cspClear u (push_keeps hP.toStable hu hs)

theorem popSegment_keeps (hP : StableFar P) {s t : State} (h : popSegment s = .ok t) (hs : P s) : P t := by
  unfold popSegment at h
  split at h
  · cases h; exact hs
  · simp only [Res.bind_ok, Except.ok.injEq] at h
    obtain ⟨⟨csp, u⟩, hu, rfl⟩ := h
    exact hP.csp u csp (pop_keeps hP.toStable hu hs)

theorem enterTrap_keeps (hP : StableFar P) {t : BitVec 7} {ret : Word} {l : Option (BitVec 4)} {s u : State}
    (h : enterTrap t ret l s = .ok u) (hs : P s) : P u := by
  simp only [enterTrap, Res.bind_ok, Except.ok.injEq] at h
  obtain ⟨a, ha, b, hb, c, hc, rfl⟩ := h
  refine hP.ip _ _ (hP.frames c _ (push_keeps hP.toStable hc (pushSegment_keeps hP hb (push_keeps hP.toStable ha ?_))))
  cases l with
  | none => exact hs
  | some l => exact hP.level s l hs

theorem returnFromTrap_keeps (hP : StableFar P) {s u : State} (h : returnFromTrap s = .ok u) (hs : P s) : P u := by
  obtain ⟨-, ip, a, b, psw, c, ha, hb, hc, h⟩ := (returnFromTrap_ok s u).1 h
  obtain ⟨hr, rfl⟩ := (storeCore_ok _ _ _ _).1 h
  exact hP.core .psw psw c hr (pop_keeps hP.toStable hc
    (popSegment_keeps hP hb (hP.ip a ip (pop_keeps hP.toStable ha (hP.frames s _ hs)))))

/-! ## Families -/

theorem aluW_keeps (hP : Stable P) {op : AluOp} {dst : Loc} {src : Src 16} {len : Nat} {s t : State}
    (h : aluW op dst src len s = .ok t) (hs : P s) : P t := by
  simp only [aluW, Res.bind_ok, Except.ok.injEq] at h
  obtain ⟨⟨pa, a⟩, ha, ⟨v, b⟩, hb, ⟨w, c⟩, hc, d, hd, rfl⟩ := h
  have hC := hP.flags c (op.compute v w c.flags).2 (readSrcW_keeps hP hc (memReadW_keeps hP hb (addr_keeps hP ha hs)))
  refine hP.ip d _ ?_
  split at hd
  · cases hd; exact hC
  · exact writeDstW_keeps hP hd hC

theorem aluB_keeps (hP : Stable P) {op : AluOp} {dst : Loc} {src : Src 8} {len : Nat} {s t : State}
    (h : aluB op dst src len s = .ok t) (hs : P s) : P t := by
  simp only [aluB, Res.bind_ok, Except.ok.injEq] at h
  obtain ⟨⟨pa, a⟩, ha, ⟨v, b⟩, hb, ⟨w, c⟩, hc, d, hd, rfl⟩ := h
  have hC := hP.flags c (op.compute v w c.flags).2 (readSrcB_keeps hP hc (memReadB_keeps hP hb (addr_keeps hP ha hs)))
  refine hP.ip d _ ?_
  split at hd
  · cases hd; exact hC
  · exact writeDstB_keeps hP hd hC

theorem compareStep_keeps (hP : Stable P) {δ : Word} {n : BitVec 4} {src : Src 16} {len : Nat} {s t : State}
    (h : compareStep δ n src len s = .ok t) (hs : P s) : P t := by
  simp only [compareStep, Res.bind_ok, Except.ok.injEq] at h
  obtain ⟨⟨a, u⟩, ha, ⟨b, v⟩, hb, w, hw, rfl⟩ := h
  exact hP.ip _ _ (writeDstW_keeps hP hw (hP.flags v _ (readSrcW_keeps hP hb (memReadW_keeps hP ha hs))))

theorem unaryW_keeps (hP : Stable P) {op : UnaryOp} {n : BitVec 4} {s t : State} (h : unaryW op n s = .ok t)
    (hs : P s) : P t := by
  simp only [unaryW, Res.bind_ok, Except.ok.injEq] at h
  obtain ⟨⟨a, u⟩, ha, w, hw, rfl⟩ := h
  exact hP.ip _ _ (writeDstW_keeps hP hw (hP.flags u _ (memReadW_keeps hP ha hs)))

theorem unaryB_keeps (hP : Stable P) {op : UnaryOp} {n : BitVec 4} {s t : State} (h : unaryB op n s = .ok t)
    (hs : P s) : P t := by
  simp only [unaryB, Res.bind_ok, Except.ok.injEq] at h
  obtain ⟨⟨a, u⟩, ha, w, hw, rfl⟩ := h
  exact hP.ip _ _ (writeDstB_keeps hP hw (hP.flags u _ (memReadB_keeps hP ha hs)))

theorem shiftOp_keeps (hP : Stable P) {op : ShiftOp} {n : BitVec 4} {src : Src 16} {s t : State}
    (h : shiftOp op n src s = .ok t) (hs : P s) : P t := by
  simp only [shiftOp, Res.bind_ok, Except.ok.injEq] at h
  obtain ⟨⟨a, u⟩, ha, ⟨b, v⟩, hb, w, hw, rfl⟩ := h
  exact hP.ip _ _ (writeDstW_keeps hP hw (hP.flags v _ (readSrcW_keeps hP hb (memReadW_keeps hP ha hs))))

theorem priorOp_keeps (hP : Stable P) {n m : BitVec 4} {s t : State} (h : priorOp n m s = .ok t) (hs : P s) : P t := by
  simp only [priorOp, Res.bind_ok, Except.ok.injEq] at h
  obtain ⟨⟨a, u⟩, ha, w, hw, rfl⟩ := h
  exact hP.ip _ _ (writeDstW_keeps hP hw (hP.flags u _ (memReadW_keeps hP ha hs)))

theorem bitField_keeps (hP : Stable P) {q : Byte} {f : Word → Word} {s t : State} (h : bitField q f s = .ok t)
    (hs : P s) : P t := by
  simp only [bitField, Res.bind_ok, Except.ok.injEq] at h
  obtain ⟨⟨a, u⟩, ha, w, hw, rfl⟩ := h
  exact hP.ip _ _ (writeDstW_keeps hP hw (hP.flags u _ (memReadW_keeps hP ha hs)))

theorem twoBit_keeps (hP : Stable P) {op : BitOp} {dst src : BitAddr} {s t : State} (h : twoBit op dst src s = .ok t)
    (hs : P s) : P t := by
  simp only [twoBit, Res.bind_ok, Except.ok.injEq] at h
  obtain ⟨⟨a, u⟩, ha, ⟨b, v⟩, hb, w, hw, rfl⟩ := h
  have hV := hP.flags v (twoBitFlags (bitAt a dst.bit) (bitAt b src.bit))
    (memReadW_keeps hP hb (memReadW_keeps hP ha hs))
  refine hP.ip w _ ?_
  split at hw
  · cases hw; exact hV
  · exact writeDstW_keeps hP hw hV

theorem moveBit_keeps (hP : Stable P) {f : Bool → Bool} {dst src : BitAddr} {s t : State}
    (h : moveBit f dst src s = .ok t) (hs : P s) : P t := by
  simp only [moveBit, Res.bind_ok, Except.ok.injEq] at h
  obtain ⟨⟨a, u⟩, ha, ⟨b, v⟩, hb, w, hw, rfl⟩ := h
  exact hP.ip _ _ (writeDstW_keeps hP hw (hP.flags v _ (memReadW_keeps hP hb (memReadW_keeps hP ha hs))))

theorem writeBit_keeps (hP : Stable P) {v : Bool} {b : BitAddr} {s t : State} (h : writeBit v b s = .ok t)
    (hs : P s) : P t := by
  simp only [writeBit, Res.bind_ok, Except.ok.injEq] at h
  obtain ⟨⟨a, u⟩, ha, w, hw, rfl⟩ := h
  exact hP.ip _ _ (writeDstW_keeps hP hw (hP.flags u _ (memReadW_keeps hP ha hs)))

theorem jumpIf_keeps (hP : Stable P) (cc : Cond) (a : Word) (len : Nat) (s : State) (hs : P s) :
    P (jumpIf cc a len s) := by
  unfold jumpIf
  split
  · exact hP.ip s _ hs
  · exact hP.ip s _ hs

theorem jumpIndirect_keeps (hP : Stable P) {cc : Cond} {n : BitVec 4} {s t : State} (h : jumpIndirect cc n s = .ok t)
    (hs : P s) : P t := by
  unfold jumpIndirect at h
  split at h
  · simp only [Res.bind_ok, Except.ok.injEq] at h
    obtain ⟨⟨a, u⟩, ha, rfl⟩ := h
    exact hP.ip u _ (memReadW_keeps hP ha hs)
  · cases h; exact hP.ip s _ hs

theorem callTo_keeps (hP : Stable P) {cc : Cond} {a : Word} {len : Nat} {s t : State} (h : callTo cc a len s = .ok t)
    (hs : P s) : P t := by
  unfold callTo at h
  split at h
  · simp only [Res.bind_ok, Except.ok.injEq] at h
    obtain ⟨u, hu, rfl⟩ := h
    exact hP.ip u _ (push_keeps hP hu hs)
  · cases h; exact hP.ip s _ hs

theorem callIndirect_keeps (hP : Stable P) {cc : Cond} {n : BitVec 4} {s t : State} (h : callIndirect cc n s = .ok t)
    (hs : P s) : P t := by
  unfold callIndirect at h
  split at h
  · simp only [Res.bind_ok, Except.ok.injEq] at h
    obtain ⟨⟨a, u⟩, ha, v, hv, rfl⟩ := h
    exact hP.ip v _ (push_keeps hP hv (memReadW_keeps hP ha hs))
  · cases h; exact hP.ip s _ hs

theorem jumpSegment_keeps (hP : StableFar P) (sg : Byte) (a : Word) (s : State) (hs : P s) : P (jumpSegment sg a s) :=
  hP.ip _ a (hP.csp s _ hs)

theorem callSegment_keeps (hP : StableFar P) {sg : Byte} {a : Word} {s t : State} (h : callSegment sg a s = .ok t)
    (hs : P s) : P t := by
  simp only [callSegment, Res.bind_ok, Except.ok.injEq] at h
  obtain ⟨u, hu, v, hv, rfl⟩ := h
  exact jumpSegment_keeps hP sg a v (push_keeps hP.toStable hv (push_keeps hP.toStable hu hs))

theorem pushCall_keeps (hP : Stable P) {r : Byte} {a : Word} {s t : State} (h : pushCall r a s = .ok t) (hs : P s) :
    P t := by
  simp only [pushCall, Res.bind_ok, Except.ok.injEq] at h
  obtain ⟨⟨v, u⟩, hu, w, hw, x, hx, rfl⟩ := h
  exact hP.ip _ _ (hP.flags x _ (push_keeps hP hx (push_keeps hP hw (memReadW_keeps hP hu hs))))

theorem jumpOnBit_keeps (hP : Stable P) {on : Bool} {b : BitAddr} {rel : Byte} {s t : State}
    (h : jumpOnBit on b rel s = .ok t) (hs : P s) : P t := by
  simp only [jumpOnBit, Res.bind_ok, Except.ok.injEq] at h
  obtain ⟨⟨w, u⟩, hu, rfl⟩ := h
  have hU : P u := memReadW_keeps hP hu hs
  split
  · exact hP.ip u _ hU
  · exact hP.ip u _ hU

theorem bitJumpFlags_keeps (hP : Stable P) (b : Bool) (s : State) (hs : P s) : P (bitJumpFlags b s).2 := by
  unfold bitJumpFlags
  split
  · exact hs
  · exact hs
  · exact hP.draws _ _ (hP.draws _ _ (hP.draws s _ hs))

theorem testAndChange_keeps (hP : Stable P) {on : Bool} {b : BitAddr} {rel : Byte} {s t : State}
    (h : testAndChange on b rel s = .ok t) (hs : P s) : P t := by
  simp only [testAndChange, Res.bind_ok] at h
  obtain ⟨⟨w, u⟩, hu, h⟩ := h
  have hU := hP.flags _ (bitJumpFlags (bitAt w b.bit) u).1
    (bitJumpFlags_keeps hP (bitAt w b.bit) u (memReadW_keeps hP hu hs))
  split at h
  · simp only [Res.bind_ok, Except.ok.injEq] at h
    obtain ⟨v, hv, rfl⟩ := h
    exact hP.ip v _ (writeDstW_keeps hP hv hU)
  · cases h; exact hP.ip _ _ hU

theorem returnNear_keeps (hP : Stable P) {s t : State} (h : returnNear s = .ok t) (hs : P s) : P t := by
  simp only [returnNear, Res.bind_ok, Except.ok.injEq] at h
  obtain ⟨⟨ip, u⟩, hu, rfl⟩ := h
  exact hP.ip u _ (pop_keeps hP hu hs)

theorem returnFar_keeps (hP : StableFar P) {s t : State} (h : returnFar s = .ok t) (hs : P s) : P t := by
  simp only [returnFar, Res.bind_ok, Except.ok.injEq] at h
  obtain ⟨⟨ip, u⟩, hu, ⟨csp, v⟩, hv, rfl⟩ := h
  exact hP.ip _ ip (hP.csp v csp (pop_keeps hP.toStable hv (pop_keeps hP.toStable hu hs)))

theorem returnPop_keeps (hP : Stable P) {r : Byte} {s t : State} (h : returnPop r s = .ok t) (hs : P s) : P t := by
  simp only [returnPop, Res.bind_ok, Except.ok.injEq] at h
  obtain ⟨⟨ip, u⟩, hu, ⟨v, w⟩, hv, x, hx, rfl⟩ := h
  exact hP.ip x _ (writeDstW_keeps hP hx (hP.flags w _ (pop_keeps hP hv (pop_keeps hP hu hs))))

theorem multiply_keeps (hP : Stable P) {f : Word → Word → BitVec 32 × Bool} {n m : BitVec 4} {s t : State}
    (h : multiply f n m s = .ok t) (hs : P s) : P t := by
  simp only [multiply, Res.bind_ok, Except.ok.injEq] at h
  obtain ⟨⟨a, u⟩, ha, ⟨b, v⟩, hb, rfl⟩ := h
  have hV : P v := memReadW_keeps hP hb (memReadW_keeps hP ha hs)
  exact hP.ip _ _ (hP.flags _ _ (hP.md _ _ _ (hP.mdc { v with draws := v.draws + 1 } _ (hP.draws v _ hV))))

theorem divisionUndefined_keeps (hP : Stable P) (s : State) (hs : P s) : P (divisionUndefined s) :=
  hP.flags _ _ (hP.md _ _ _ (hP.draws _ _ (hP.draws _ _ (hP.draws _ _ (hP.draws s _ hs)))))

theorem divide_keeps (hP : Stable P) {op : DivOp} {n : BitVec 4} {s t : State}
    (h : divide op n s = .ok t) (hs : P s) : P t := by
  simp only [divide, Res.bind_ok, Except.ok.injEq] at h
  obtain ⟨⟨d, u⟩, hu, rfl⟩ := h
  have hD : P u.drawMdc := hP.mdc { u with draws := u.draws + 1 } _ (hP.draws u _ (memReadW_keeps hP hu hs))
  have hq : ∀ v q r, P v → P (v.setQuotient q r) := fun v q r hv => hP.flags _ _ (hP.md v _ _ hv)
  refine hP.ip _ _ ?_
  split
  · exact divisionUndefined_keeps hP _ hD
  · split
    · exact hq _ _ _ (hP.draws _ _ (hP.draws _ _ hD))
    · exact hq _ _ _ hD

theorem moveW_keeps (hP : Stable P) {dst : Loc} {src : Src 16} {len : Nat} {s t : State}
    (h : moveW dst src len s = .ok t) (hs : P s) : P t := by
  simp only [moveW, Res.bind_ok, Except.ok.injEq] at h
  obtain ⟨⟨pa, a⟩, ha, ⟨v, b⟩, hb, c, hc, d, hd, rfl⟩ := h
  exact hP.ip _ _ (flagsLast_keeps hP _ _ _ (putDstW_keeps hP hd (before_keeps hP hc
    (readSrcW_keeps hP hb (addr_keeps hP ha hs)))))

theorem moveB_keeps (hP : Stable P) {dst : Loc} {src : Src 8} {len : Nat} {s t : State}
    (h : moveB dst src len s = .ok t) (hs : P s) : P t := by
  simp only [moveB, Res.bind_ok, Except.ok.injEq] at h
  obtain ⟨⟨pa, a⟩, ha, ⟨v, b⟩, hb, c, hc, d, hd, rfl⟩ := h
  exact hP.ip _ _ (flagsLast_keeps hP _ _ _ (putDstB_keeps hP hd (before_keeps hP hc
    (readSrcB_keeps hP hb (addr_keeps hP ha hs)))))

theorem moveExtend_keeps (hP : Stable P) {x : Extension} {dst : Loc} {src : Src 8} {len : Nat} {s t : State}
    (h : moveExtend x dst src len s = .ok t) (hs : P s) : P t := by
  simp only [moveExtend, Res.bind_ok, Except.ok.injEq] at h
  obtain ⟨⟨pa, a⟩, ha, ⟨v, b⟩, hb, d, hd, rfl⟩ := h
  exact hP.ip _ _ (flagsLast_keeps hP _ _ _ (writeDstW_keeps hP hd (readSrcB_keeps hP hb (addr_keeps hP ha hs))))

theorem popReg_keeps (hP : Stable P) {r : Byte} {s t : State} (h : popReg r s = .ok t) (hs : P s) : P t := by
  simp only [popReg, Res.bind_ok, Except.ok.injEq] at h
  obtain ⟨⟨v, u⟩, hu, w, hw, rfl⟩ := h
  exact hP.ip _ _ (flagsLast_keeps hP _ _ _ (writeDstW_keeps hP hw (pop_keeps hP hu hs)))

theorem pushReg_keeps (hP : Stable P) {r : Byte} {s t : State} (h : pushReg r s = .ok t) (hs : P s) : P t := by
  simp only [pushReg, Res.bind_ok, Except.ok.injEq] at h
  obtain ⟨⟨v, u⟩, hu, w, hw, rfl⟩ := h
  exact hP.ip _ _ (hP.flags w _ (push_keeps hP hw (memReadW_keeps hP hu hs)))

theorem switchContext_keeps (hP : Stable P) {r : Byte} {src : Src 16} {s t : State}
    (h : switchContext r src s = .ok t) (hs : P s) : P t := by
  simp only [switchContext, Res.bind_ok, Except.ok.injEq] at h
  obtain ⟨⟨v, u⟩, hu, ⟨w, a⟩, ha, b, hb, c, hc, rfl⟩ := h
  exact hP.ip _ _ (writeDstW_keeps hP hc (push_keeps hP hb (readSrcW_keeps hP ha (memReadW_keeps hP hu hs))))

end Sys2Proof.Machine
end

