-- ==== Sys2Proof/Laws/Exec.lean ====
section
/-! SUPPORT. A property kept by the basic updates is kept by every instruction. -/

namespace Sys2Proof.Machine

/-- The property is kept by every update an instruction is made of. -/
structure StableExec (P : State → Prop) : Prop extends StableFar P where
  raise : ∀ s e, P s → P (State.requestClassB s e)
  sequence : ∀ s g e o, s.seq.count = 0 → P s → P { s with seq := sequenceState g e o }
  diswdt : ∀ s, P s → P (disableWatchdog s)
  einit : ∀ s, P s → P (endInit s)
  idle : ∀ s, s.seq.count = 0 → P s → P { s with runState := .idle }
  powerDown : ∀ s, s.seq.count = 0 → P s → P { s with runState := .powerDown }
  srvwdt : ∀ s, P s → P (serviceWatchdog s)
  srst : ∀ s, P s → P (s.resetBy .software)

variable {P : State → Prop}

theorem finish_keeps (hr : ∀ s e, P s → P (State.requestClassB s e)) {s t : State} {r : Res State}
    (h : finish s r = .next t) (hs : P s) (hk : ∀ u, r = .ok u → P u) : P t := by
  rcases finish_next s t r h with hok | ⟨e, -, -, rfl⟩
  · exact hk t hok
  · exact hr s e hs

theorem startSequence_keeps (hP : StableExec P) {g : BitVec 2} {e : Bool} {o : Override} {len : Nat} {s t : State}
    (h : startSequence g e o len s = .ok t) (hs : P s) : P t := by
  unfold startSequence at h
  split at h
  · cases h
  · rename_i hc
    cases h
    exact hP.ip _ _ (hP.sequence s g e o (by simpa using hc) hs)

theorem startSequenceFrom_keeps (hP : StableExec P) {g : BitVec 2} {e : Bool} {k : OverrideKind} {m : BitVec 4}
    {s t : State} (h : startSequenceFrom g e k m s = .ok t) (hs : P s) : P t := by
  simp only [startSequenceFrom, Res.bind_ok] at h
  obtain ⟨⟨w, u⟩, hu, h⟩ := h
  exact startSequence_keeps hP h (memReadW_keeps hP.toStable hu hs)

theorem enterIdle_keeps (hP : StableExec P) {s t : State} (h : enterIdle s = .ok t) (hs : P s) : P t := by
  unfold enterIdle at h
  split at h
  · cases h
  · rename_i hc
    cases h
    exact hP.ip _ _ (hP.idle s (by simpa using hc) hs)

theorem powerDown_keeps (hP : StableExec P) {s t : State} (h : powerDown s = .ok t) (hs : P s) : P t := by
  unfold powerDown at h
  split at h
  · cases h
  · rename_i hc
    split at h
    · cases h; exact hP.ip _ _ hs
    · cases h; exact hP.ip _ _ (hP.powerDown s (by simpa using hc) hs)

/-- Every instruction keeps the property. -/
theorem exec_keeps (hP : StableExec P) (i : Instr) {s t : State} (h : exec i s = .next t) (hs : P s) : P t := by
  have hN := hP.toStable
  have hF := hP.toStableFar
  have hR := hP.raise
  cases i with
  | addRwRw => exact finish_keeps hR h hs fun _ hu => aluW_keeps hN hu hs
  | addRwInd => exact finish_keeps hR h hs fun _ hu => aluW_keeps hN hu hs
  | addRwIndInc => exact finish_keeps hR h hs fun _ hu => aluW_keeps hN hu hs
  | addRwData3 => exact finish_keeps hR h hs fun _ hu => aluW_keeps hN hu hs
  | addRegData16 => exact finish_keeps hR h hs fun _ hu => aluW_keeps hN hu hs
  | addRegMem => exact finish_keeps hR h hs fun _ hu => aluW_keeps hN hu hs
  | addMemReg => exact finish_keeps hR h hs fun _ hu => aluW_keeps hN hu hs
  | addbRbRb => exact finish_keeps hR h hs fun _ hu => aluB_keeps hN hu hs
  | addbRbInd => exact finish_keeps hR h hs fun _ hu => aluB_keeps hN hu hs
  | addbRbIndInc => exact finish_keeps hR h hs fun _ hu => aluB_keeps hN hu hs
  | addbRbData3 => exact finish_keeps hR h hs fun _ hu => aluB_keeps hN hu hs
  | addbRegData8 => exact finish_keeps hR h hs fun _ hu => aluB_keeps hN hu hs
  | addbRegMem => exact finish_keeps hR h hs fun _ hu => aluB_keeps hN hu hs
  | addbMemReg => exact finish_keeps hR h hs fun _ hu => aluB_keeps hN hu hs
  | addcRwRw => exact finish_keeps hR h hs fun _ hu => aluW_keeps hN hu hs
  | addcRwInd => exact finish_keeps hR h hs fun _ hu => aluW_keeps hN hu hs
  | addcRwIndInc => exact finish_keeps hR h hs fun _ hu => aluW_keeps hN hu hs
  | addcRwData3 => exact finish_keeps hR h hs fun _ hu => aluW_keeps hN hu hs
  | addcRegData16 => exact finish_keeps hR h hs fun _ hu => aluW_keeps hN hu hs
  | addcRegMem => exact finish_keeps hR h hs fun _ hu => aluW_keeps hN hu hs
  | addcMemReg => exact finish_keeps hR h hs fun _ hu => aluW_keeps hN hu hs
  | addcbRbRb => exact finish_keeps hR h hs fun _ hu => aluB_keeps hN hu hs
  | addcbRbInd => exact finish_keeps hR h hs fun _ hu => aluB_keeps hN hu hs
  | addcbRbIndInc => exact finish_keeps hR h hs fun _ hu => aluB_keeps hN hu hs
  | addcbRbData3 => exact finish_keeps hR h hs fun _ hu => aluB_keeps hN hu hs
  | addcbRegData8 => exact finish_keeps hR h hs fun _ hu => aluB_keeps hN hu hs
  | addcbRegMem => exact finish_keeps hR h hs fun _ hu => aluB_keeps hN hu hs
  | addcbMemReg => exact finish_keeps hR h hs fun _ hu => aluB_keeps hN hu hs
  | subRwRw => exact finish_keeps hR h hs fun _ hu => aluW_keeps hN hu hs
  | subRwInd => exact finish_keeps hR h hs fun _ hu => aluW_keeps hN hu hs
  | subRwIndInc => exact finish_keeps hR h hs fun _ hu => aluW_keeps hN hu hs
  | subRwData3 => exact finish_keeps hR h hs fun _ hu => aluW_keeps hN hu hs
  | subRegData16 => exact finish_keeps hR h hs fun _ hu => aluW_keeps hN hu hs
  | subRegMem => exact finish_keeps hR h hs fun _ hu => aluW_keeps hN hu hs
  | subMemReg => exact finish_keeps hR h hs fun _ hu => aluW_keeps hN hu hs
  | subbRbRb => exact finish_keeps hR h hs fun _ hu => aluB_keeps hN hu hs
  | subbRbInd => exact finish_keeps hR h hs fun _ hu => aluB_keeps hN hu hs
  | subbRbIndInc => exact finish_keeps hR h hs fun _ hu => aluB_keeps hN hu hs
  | subbRbData3 => exact finish_keeps hR h hs fun _ hu => aluB_keeps hN hu hs
  | subbRegData8 => exact finish_keeps hR h hs fun _ hu => aluB_keeps hN hu hs
  | subbRegMem => exact finish_keeps hR h hs fun _ hu => aluB_keeps hN hu hs
  | subbMemReg => exact finish_keeps hR h hs fun _ hu => aluB_keeps hN hu hs
  | subcRwRw => exact finish_keeps hR h hs fun _ hu => aluW_keeps hN hu hs
  | subcRwInd => exact finish_keeps hR h hs fun _ hu => aluW_keeps hN hu hs
  | subcRwIndInc => exact finish_keeps hR h hs fun _ hu => aluW_keeps hN hu hs
  | subcRwData3 => exact finish_keeps hR h hs fun _ hu => aluW_keeps hN hu hs
  | subcRegData16 => exact finish_keeps hR h hs fun _ hu => aluW_keeps hN hu hs
  | subcRegMem => exact finish_keeps hR h hs fun _ hu => aluW_keeps hN hu hs
  | subcMemReg => exact finish_keeps hR h hs fun _ hu => aluW_keeps hN hu hs
  | subcbRbRb => exact finish_keeps hR h hs fun _ hu => aluB_keeps hN hu hs
  | subcbRbInd => exact finish_keeps hR h hs fun _ hu => aluB_keeps hN hu hs
  | subcbRbIndInc => exact finish_keeps hR h hs fun _ hu => aluB_keeps hN hu hs
  | subcbRbData3 => exact finish_keeps hR h hs fun _ hu => aluB_keeps hN hu hs
  | subcbRegData8 => exact finish_keeps hR h hs fun _ hu => aluB_keeps hN hu hs
  | subcbRegMem => exact finish_keeps hR h hs fun _ hu => aluB_keeps hN hu hs
  | subcbMemReg => exact finish_keeps hR h hs fun _ hu => aluB_keeps hN hu hs
  | cmpRwRw => exact finish_keeps hR h hs fun _ hu => aluW_keeps hN hu hs
  | cmpRwInd => exact finish_keeps hR h hs fun _ hu => aluW_keeps hN hu hs
  | cmpRwIndInc => exact finish_keeps hR h hs fun _ hu => aluW_keeps hN hu hs
  | cmpRwData3 => exact finish_keeps hR h hs fun _ hu => aluW_keeps hN hu hs
  | cmpRegData16 => exact finish_keeps hR h hs fun _ hu => aluW_keeps hN hu hs
  | cmpRegMem => exact finish_keeps hR h hs fun _ hu => aluW_keeps hN hu hs
  | cmpbRbRb => exact finish_keeps hR h hs fun _ hu => aluB_keeps hN hu hs
  | cmpbRbInd => exact finish_keeps hR h hs fun _ hu => aluB_keeps hN hu hs
  | cmpbRbIndInc => exact finish_keeps hR h hs fun _ hu => aluB_keeps hN hu hs
  | cmpbRbData3 => exact finish_keeps hR h hs fun _ hu => aluB_keeps hN hu hs
  | cmpbRegData8 => exact finish_keeps hR h hs fun _ hu => aluB_keeps hN hu hs
  | cmpbRegMem => exact finish_keeps hR h hs fun _ hu => aluB_keeps hN hu hs
  | xorRwRw => exact finish_keeps hR h hs fun _ hu => aluW_keeps hN hu hs
  | xorRwInd => exact finish_keeps hR h hs fun _ hu => aluW_keeps hN hu hs
  | xorRwIndInc => exact finish_keeps hR h hs fun _ hu => aluW_keeps hN hu hs
  | xorRwData3 => exact finish_keeps hR h hs fun _ hu => aluW_keeps hN hu hs
  | xorRegData16 => exact finish_keeps hR h hs fun _ hu => aluW_keeps hN hu hs
  | xorRegMem => exact finish_keeps hR h hs fun _ hu => aluW_keeps hN hu hs
  | xorMemReg => exact finish_keeps hR h hs fun _ hu => aluW_keeps hN hu hs
  | xorbRbRb => exact finish_keeps hR h hs fun _ hu => aluB_keeps hN hu hs
  | xorbRbInd => exact finish_keeps hR h hs fun _ hu => aluB_keeps hN hu hs
  | xorbRbIndInc => exact finish_keeps hR h hs fun _ hu => aluB_keeps hN hu hs
  | xorbRbData3 => exact finish_keeps hR h hs fun _ hu => aluB_keeps hN hu hs
  | xorbRegData8 => exact finish_keeps hR h hs fun _ hu => aluB_keeps hN hu hs
  | xorbRegMem => exact finish_keeps hR h hs fun _ hu => aluB_keeps hN hu hs
  | xorbMemReg => exact finish_keeps hR h hs fun _ hu => aluB_keeps hN hu hs
  | andRwRw => exact finish_keeps hR h hs fun _ hu => aluW_keeps hN hu hs
  | andRwInd => exact finish_keeps hR h hs fun _ hu => aluW_keeps hN hu hs
  | andRwIndInc => exact finish_keeps hR h hs fun _ hu => aluW_keeps hN hu hs
  | andRwData3 => exact finish_keeps hR h hs fun _ hu => aluW_keeps hN hu hs
  | andRegData16 => exact finish_keeps hR h hs fun _ hu => aluW_keeps hN hu hs
  | andRegMem => exact finish_keeps hR h hs fun _ hu => aluW_keeps hN hu hs
  | andMemReg => exact finish_keeps hR h hs fun _ hu => aluW_keeps hN hu hs
  | andbRbRb => exact finish_keeps hR h hs fun _ hu => aluB_keeps hN hu hs
  | andbRbInd => exact finish_keeps hR h hs fun _ hu => aluB_keeps hN hu hs
  | andbRbIndInc => exact finish_keeps hR h hs fun _ hu => aluB_keeps hN hu hs
  | andbRbData3 => exact finish_keeps hR h hs fun _ hu => aluB_keeps hN hu hs
  | andbRegData8 => exact finish_keeps hR h hs fun _ hu => aluB_keeps hN hu hs
  | andbRegMem => exact finish_keeps hR h hs fun _ hu => aluB_keeps hN hu hs
  | andbMemReg => exact finish_keeps hR h hs fun _ hu => aluB_keeps hN hu hs
  | orRwRw => exact finish_keeps hR h hs fun _ hu => aluW_keeps hN hu hs
  | orRwInd => exact finish_keeps hR h hs fun _ hu => aluW_keeps hN hu hs
  | orRwIndInc => exact finish_keeps hR h hs fun _ hu => aluW_keeps hN hu hs
  | orRwData3 => exact finish_keeps hR h hs fun _ hu => aluW_keeps hN hu hs
  | orRegData16 => exact finish_keeps hR h hs fun _ hu => aluW_keeps hN hu hs
  | orRegMem => exact finish_keeps hR h hs fun _ hu => aluW_keeps hN hu hs
  | orMemReg => exact finish_keeps hR h hs fun _ hu => aluW_keeps hN hu hs
  | orbRbRb => exact finish_keeps hR h hs fun _ hu => aluB_keeps hN hu hs
  | orbRbInd => exact finish_keeps hR h hs fun _ hu => aluB_keeps hN hu hs
  | orbRbIndInc => exact finish_keeps hR h hs fun _ hu => aluB_keeps hN hu hs
  | orbRbData3 => exact finish_keeps hR h hs fun _ hu => aluB_keeps hN hu hs
  | orbRegData8 => exact finish_keeps hR h hs fun _ hu => aluB_keeps hN hu hs
  | orbRegMem => exact finish_keeps hR h hs fun _ hu => aluB_keeps hN hu hs
  | orbMemReg => exact finish_keeps hR h hs fun _ hu => aluB_keeps hN hu hs
  | rolRwRw => exact finish_keeps hR h hs fun _ hu => shiftOp_keeps hN hu hs
  | rolRwData4 => exact finish_keeps hR h hs fun _ hu => shiftOp_keeps hN hu hs
  | rorRwRw => exact finish_keeps hR h hs fun _ hu => shiftOp_keeps hN hu hs
  | rorRwData4 => exact finish_keeps hR h hs fun _ hu => shiftOp_keeps hN hu hs
  | shlRwRw => exact finish_keeps hR h hs fun _ hu => shiftOp_keeps hN hu hs
  | shlRwData4 => exact finish_keeps hR h hs fun _ hu => shiftOp_keeps hN hu hs
  | shrRwRw => exact finish_keeps hR h hs fun _ hu => shiftOp_keeps hN hu hs
  | shrRwData4 => exact finish_keeps hR h hs fun _ hu => shiftOp_keeps hN hu hs
  | ashrRwRw => exact finish_keeps hR h hs fun _ hu => shiftOp_keeps hN hu hs
  | ashrRwData4 => exact finish_keeps hR h hs fun _ hu => shiftOp_keeps hN hu hs
  | priorRwRw => exact finish_keeps hR h hs fun _ hu => priorOp_keeps hN hu hs
  | atomic => exact finish_keeps hR h hs fun _ hu => startSequence_keeps hP hu hs
  | extr => exact finish_keeps hR h hs fun _ hu => startSequence_keeps hP hu hs
  | extsRw => exact finish_keeps hR h hs fun _ hu => startSequenceFrom_keeps hP hu hs
  | extsSeg => exact finish_keeps hR h hs fun _ hu => startSequence_keeps hP hu hs
  | extpRw => exact finish_keeps hR h hs fun _ hu => startSequenceFrom_keeps hP hu hs
  | extpPag => exact finish_keeps hR h hs fun _ hu => startSequence_keeps hP hu hs
  | extsrRw => exact finish_keeps hR h hs fun _ hu => startSequenceFrom_keeps hP hu hs
  | extsrSeg => exact finish_keeps hR h hs fun _ hu => startSequence_keeps hP hu hs
  | extprRw => exact finish_keeps hR h hs fun _ hu => startSequenceFrom_keeps hP hu hs
  | extprPag => exact finish_keeps hR h hs fun _ hu => startSequence_keeps hP hu hs
  | bfldl => exact finish_keeps hR h hs fun _ hu => bitField_keeps hN hu hs
  | bfldh => exact finish_keeps hR h hs fun _ hu => bitField_keeps hN hu hs
  | bcmp => exact finish_keeps hR h hs fun _ hu => twoBit_keeps hN hu hs
  | bmovn => exact finish_keeps hR h hs fun _ hu => moveBit_keeps hN hu hs
  | bmov => exact finish_keeps hR h hs fun _ hu => moveBit_keeps hN hu hs
  | bor => exact finish_keeps hR h hs fun _ hu => twoBit_keeps hN hu hs
  | band => exact finish_keeps hR h hs fun _ hu => twoBit_keeps hN hu hs
  | bxor => exact finish_keeps hR h hs fun _ hu => twoBit_keeps hN hu hs
  | jb => exact finish_keeps hR h hs fun _ hu => jumpOnBit_keeps hN hu hs
  | jnb => exact finish_keeps hR h hs fun _ hu => jumpOnBit_keeps hN hu hs
  | jbc => exact finish_keeps hR h hs fun _ hu => testAndChange_keeps hN hu hs
  | jnbs => exact finish_keeps hR h hs fun _ hu => testAndChange_keeps hN hu hs
  | bclr => exact finish_keeps hR h hs fun _ hu => writeBit_keeps hN hu hs
  | bset => exact finish_keeps hR h hs fun _ hu => writeBit_keeps hN hu hs
  | calla => exact finish_keeps hR h hs fun _ hu => callTo_keeps hN hu hs
  | jmpa => cases h; exact jumpIf_keeps hN _ _ _ s hs
  | calli => exact finish_keeps hR h hs fun _ hu => callIndirect_keeps hN hu hs
  | jmpi => exact finish_keeps hR h hs fun _ hu => jumpIndirect_keeps hN hu hs
  | callr => exact finish_keeps hR h hs fun _ hu => callTo_keeps hN hu hs
  | jmpr => cases h; exact jumpIf_keeps hN _ _ _ s hs
  | calls => exact finish_keeps hR h hs fun _ hu => callSegment_keeps hF hu hs
  | jmps => cases h; exact jumpSegment_keeps hF _ _ s hs
  | pcall => exact finish_keeps hR h hs fun _ hu => pushCall_keeps hN hu hs
  | ret => exact finish_keeps hR h hs fun _ hu => returnNear_keeps hN hu hs
  | rets => exact finish_keeps hR h hs fun _ hu => returnFar_keeps hF hu hs
  | reti => exact finish_keeps hR h hs fun _ hu => returnFromTrap_keeps hF hu hs
  | retp => exact finish_keeps hR h hs fun _ hu => returnPop_keeps hN hu hs
  | trap => exact finish_keeps hR h hs fun _ hu => enterTrap_keeps hF hu hs
  | cmpi1RwData4 => exact finish_keeps hR h hs fun _ hu => compareStep_keeps hN hu hs
  | cmpi1RwData16 => exact finish_keeps hR h hs fun _ hu => compareStep_keeps hN hu hs
  | cmpi1RwMem => exact finish_keeps hR h hs fun _ hu => compareStep_keeps hN hu hs
  | cmpi2RwData4 => exact finish_keeps hR h hs fun _ hu => compareStep_keeps hN hu hs
  | cmpi2RwData16 => exact finish_keeps hR h hs fun _ hu => compareStep_keeps hN hu hs
  | cmpi2RwMem => exact finish_keeps hR h hs fun _ hu => compareStep_keeps hN hu hs
  | cmpd1RwData4 => exact finish_keeps hR h hs fun _ hu => compareStep_keeps hN hu hs
  | cmpd1RwData16 => exact finish_keeps hR h hs fun _ hu => compareStep_keeps hN hu hs
  | cmpd1RwMem => exact finish_keeps hR h hs fun _ hu => compareStep_keeps hN hu hs
  | cmpd2RwData4 => exact finish_keeps hR h hs fun _ hu => compareStep_keeps hN hu hs
  | cmpd2RwData16 => exact finish_keeps hR h hs fun _ hu => compareStep_keeps hN hu hs
  | cmpd2RwMem => exact finish_keeps hR h hs fun _ hu => compareStep_keeps hN hu hs
  | neg => exact finish_keeps hR h hs fun _ hu => unaryW_keeps hN hu hs
  | cpl => exact finish_keeps hR h hs fun _ hu => unaryW_keeps hN hu hs
  | negb => exact finish_keeps hR h hs fun _ hu => unaryB_keeps hN hu hs
  | cplb => exact finish_keeps hR h hs fun _ hu => unaryB_keeps hN hu hs
  | diswdt => cases h; exact hP.diswdt s hs
  | einit => cases h; exact hP.einit s hs
  | idle => exact finish_keeps hR h hs fun _ hu => enterIdle_keeps hP hu hs
  | pwrdn => exact finish_keeps hR h hs fun _ hu => powerDown_keeps hP hu hs
  | srst => cases h; exact hP.srst s hs
  | srvwdt => cases h; exact hP.srvwdt s hs
  | nop => cases h; exact hP.ip s _ hs
  | mulRwRw => exact finish_keeps hR h hs fun _ hu => multiply_keeps hN hu hs
  | muluRwRw => exact finish_keeps hR h hs fun _ hu => multiply_keeps hN hu hs
  | div => exact finish_keeps hR h hs fun _ hu => divide_keeps hN hu hs
  | divu => exact finish_keeps hR h hs fun _ hu => divide_keeps hN hu hs
  | divl => exact finish_keeps hR h hs fun _ hu => divide_keeps hN hu hs
  | divlu => exact finish_keeps hR h hs fun _ hu => divide_keeps hN hu hs
  | movRwRw => exact finish_keeps hR h hs fun _ hu => moveW_keeps hN hu hs
  | movRwData4 => exact finish_keeps hR h hs fun _ hu => moveW_keeps hN hu hs
  | movRegData16 => exact finish_keeps hR h hs fun _ hu => moveW_keeps hN hu hs
  | movRwInd => exact finish_keeps hR h hs fun _ hu => moveW_keeps hN hu hs
  | movRwIndInc => exact finish_keeps hR h hs fun _ hu => moveW_keeps hN hu hs
  | movIndRw => exact finish_keeps hR h hs fun _ hu => moveW_keeps hN hu hs
  | movIndDecRw => exact finish_keeps hR h hs fun _ hu => moveW_keeps hN hu hs
  | movIndInd => exact finish_keeps hR h hs fun _ hu => moveW_keeps hN hu hs
  | movIndIncInd => exact finish_keeps hR h hs fun _ hu => moveW_keeps hN hu hs
  | movIndIndInc => exact finish_keeps hR h hs fun _ hu => moveW_keeps hN hu hs
  | movRwIndDisp => exact finish_keeps hR h hs fun _ hu => moveW_keeps hN hu hs
  | movIndDispRw => exact finish_keeps hR h hs fun _ hu => moveW_keeps hN hu hs
  | movIndMem => exact finish_keeps hR h hs fun _ hu => moveW_keeps hN hu hs
  | movMemInd => exact finish_keeps hR h hs fun _ hu => moveW_keeps hN hu hs
  | movRegMem => exact finish_keeps hR h hs fun _ hu => moveW_keeps hN hu hs
  | movMemReg => exact finish_keeps hR h hs fun _ hu => moveW_keeps hN hu hs
  | movbRbRb => exact finish_keeps hR h hs fun _ hu => moveB_keeps hN hu hs
  | movbRbData4 => exact finish_keeps hR h hs fun _ hu => moveB_keeps hN hu hs
  | movbRegData8 => exact finish_keeps hR h hs fun _ hu => moveB_keeps hN hu hs
  | movbRbInd => exact finish_keeps hR h hs fun _ hu => moveB_keeps hN hu hs
  | movbRbIndInc => exact finish_keeps hR h hs fun _ hu => moveB_keeps hN hu hs
  | movbIndRb => exact finish_keeps hR h hs fun _ hu => moveB_keeps hN hu hs
  | movbIndDecRb => exact finish_keeps hR h hs fun _ hu => moveB_keeps hN hu hs
  | movbIndInd => exact finish_keeps hR h hs fun _ hu => moveB_keeps hN hu hs
  | movbIndIncInd => exact finish_keeps hR h hs fun _ hu => moveB_keeps hN hu hs
  | movbIndIndInc => exact finish_keeps hR h hs fun _ hu => moveB_keeps hN hu hs
  | movbRbIndDisp => exact finish_keeps hR h hs fun _ hu => moveB_keeps hN hu hs
  | movbIndDispRb => exact finish_keeps hR h hs fun _ hu => moveB_keeps hN hu hs
  | movbIndMem => exact finish_keeps hR h hs fun _ hu => moveB_keeps hN hu hs
  | movbMemInd => exact finish_keeps hR h hs fun _ hu => moveB_keeps hN hu hs
  | movbRegMem => exact finish_keeps hR h hs fun _ hu => moveB_keeps hN hu hs
  | movbMemReg => exact finish_keeps hR h hs fun _ hu => moveB_keeps hN hu hs
  | movbsRwRb => exact finish_keeps hR h hs fun _ hu => moveExtend_keeps hN hu hs
  | movbsRegMem => exact finish_keeps hR h hs fun _ hu => moveExtend_keeps hN hu hs
  | movbsMemReg => exact finish_keeps hR h hs fun _ hu => moveExtend_keeps hN hu hs
  | movbszRwRb => exact finish_keeps hR h hs fun _ hu => moveExtend_keeps hN hu hs
  | movbszRegMem => exact finish_keeps hR h hs fun _ hu => moveExtend_keeps hN hu hs
  | movbszMemReg => exact finish_keeps hR h hs fun _ hu => moveExtend_keeps hN hu hs
  | pop => exact finish_keeps hR h hs fun _ hu => popReg_keeps hN hu hs
  | push => exact finish_keeps hR h hs fun _ hu => pushReg_keeps hN hu hs
  | scxtRegData16 => exact finish_keeps hR h hs fun _ hu => switchContext_keeps hN hu hs
  | scxtRegMem => exact finish_keeps hR h hs fun _ hu => switchContext_keeps hN hu hs

end Sys2Proof.Machine
end

