-- ==== Sys2Proof/Laws/PerInstr.lean ====
section
/-! SUPPORT. A property of every instruction, one lemma a constructor. -/

namespace Sys2Proof.Laws

/-- The encoding has the instruction's length, and its first byte tells that length (30_encoding.md R101). -/
def EncodedLength.Statement (i : Instr) : Prop :=
  (encode i).length = i.length ∧ (encode i).head?.map lengthOf = some i.length

theorem EncodedLength.addRwRw (n m : BitVec 4) : EncodedLength.Statement (.addRwRw n m) := ⟨rfl, rfl⟩

theorem EncodedLength.addRwInd (n : BitVec 4) (i : BitVec 2) : EncodedLength.Statement (.addRwInd n i) := ⟨rfl, rfl⟩

theorem EncodedLength.addRwIndInc (n : BitVec 4) (i : BitVec 2) : EncodedLength.Statement (.addRwIndInc n i) :=
  ⟨rfl, rfl⟩

theorem EncodedLength.addRwData3 (n : BitVec 4) (d : BitVec 3) : EncodedLength.Statement (.addRwData3 n d) := ⟨rfl, rfl⟩

theorem EncodedLength.addRegData16 (r : Byte) (d : Word) : EncodedLength.Statement (.addRegData16 r d) := ⟨rfl, rfl⟩

theorem EncodedLength.addRegMem (r : Byte) (a : Word) : EncodedLength.Statement (.addRegMem r a) := ⟨rfl, rfl⟩

theorem EncodedLength.addMemReg (a : Word) (r : Byte) : EncodedLength.Statement (.addMemReg a r) := ⟨rfl, rfl⟩

theorem EncodedLength.addbRbRb (n m : BitVec 4) : EncodedLength.Statement (.addbRbRb n m) := ⟨rfl, rfl⟩

theorem EncodedLength.addbRbInd (n : BitVec 4) (i : BitVec 2) : EncodedLength.Statement (.addbRbInd n i) := ⟨rfl, rfl⟩

theorem EncodedLength.addbRbIndInc (n : BitVec 4) (i : BitVec 2) : EncodedLength.Statement (.addbRbIndInc n i) :=
  ⟨rfl, rfl⟩

theorem EncodedLength.addbRbData3 (n : BitVec 4) (d : BitVec 3) : EncodedLength.Statement (.addbRbData3 n d) :=
  ⟨rfl, rfl⟩

theorem EncodedLength.addbRegData8 (r d : Byte) : EncodedLength.Statement (.addbRegData8 r d) := ⟨rfl, rfl⟩

theorem EncodedLength.addbRegMem (r : Byte) (a : Word) : EncodedLength.Statement (.addbRegMem r a) := ⟨rfl, rfl⟩

theorem EncodedLength.addbMemReg (a : Word) (r : Byte) : EncodedLength.Statement (.addbMemReg a r) := ⟨rfl, rfl⟩

theorem EncodedLength.addcRwRw (n m : BitVec 4) : EncodedLength.Statement (.addcRwRw n m) := ⟨rfl, rfl⟩

theorem EncodedLength.addcRwInd (n : BitVec 4) (i : BitVec 2) : EncodedLength.Statement (.addcRwInd n i) := ⟨rfl, rfl⟩

theorem EncodedLength.addcRwIndInc (n : BitVec 4) (i : BitVec 2) : EncodedLength.Statement (.addcRwIndInc n i) :=
  ⟨rfl, rfl⟩

theorem EncodedLength.addcRwData3 (n : BitVec 4) (d : BitVec 3) : EncodedLength.Statement (.addcRwData3 n d) :=
  ⟨rfl, rfl⟩

theorem EncodedLength.addcRegData16 (r : Byte) (d : Word) : EncodedLength.Statement (.addcRegData16 r d) := ⟨rfl, rfl⟩

theorem EncodedLength.addcRegMem (r : Byte) (a : Word) : EncodedLength.Statement (.addcRegMem r a) := ⟨rfl, rfl⟩

theorem EncodedLength.addcMemReg (a : Word) (r : Byte) : EncodedLength.Statement (.addcMemReg a r) := ⟨rfl, rfl⟩

theorem EncodedLength.addcbRbRb (n m : BitVec 4) : EncodedLength.Statement (.addcbRbRb n m) := ⟨rfl, rfl⟩

theorem EncodedLength.addcbRbInd (n : BitVec 4) (i : BitVec 2) : EncodedLength.Statement (.addcbRbInd n i) := ⟨rfl, rfl⟩

theorem EncodedLength.addcbRbIndInc (n : BitVec 4) (i : BitVec 2) : EncodedLength.Statement (.addcbRbIndInc n i) :=
  ⟨rfl, rfl⟩

theorem EncodedLength.addcbRbData3 (n : BitVec 4) (d : BitVec 3) : EncodedLength.Statement (.addcbRbData3 n d) :=
  ⟨rfl, rfl⟩

theorem EncodedLength.addcbRegData8 (r d : Byte) : EncodedLength.Statement (.addcbRegData8 r d) := ⟨rfl, rfl⟩

theorem EncodedLength.addcbRegMem (r : Byte) (a : Word) : EncodedLength.Statement (.addcbRegMem r a) := ⟨rfl, rfl⟩

theorem EncodedLength.addcbMemReg (a : Word) (r : Byte) : EncodedLength.Statement (.addcbMemReg a r) := ⟨rfl, rfl⟩

theorem EncodedLength.subRwRw (n m : BitVec 4) : EncodedLength.Statement (.subRwRw n m) := ⟨rfl, rfl⟩

theorem EncodedLength.subRwInd (n : BitVec 4) (i : BitVec 2) : EncodedLength.Statement (.subRwInd n i) := ⟨rfl, rfl⟩

theorem EncodedLength.subRwIndInc (n : BitVec 4) (i : BitVec 2) : EncodedLength.Statement (.subRwIndInc n i) :=
  ⟨rfl, rfl⟩

theorem EncodedLength.subRwData3 (n : BitVec 4) (d : BitVec 3) : EncodedLength.Statement (.subRwData3 n d) := ⟨rfl, rfl⟩

theorem EncodedLength.subRegData16 (r : Byte) (d : Word) : EncodedLength.Statement (.subRegData16 r d) := ⟨rfl, rfl⟩

theorem EncodedLength.subRegMem (r : Byte) (a : Word) : EncodedLength.Statement (.subRegMem r a) := ⟨rfl, rfl⟩

theorem EncodedLength.subMemReg (a : Word) (r : Byte) : EncodedLength.Statement (.subMemReg a r) := ⟨rfl, rfl⟩

theorem EncodedLength.subbRbRb (n m : BitVec 4) : EncodedLength.Statement (.subbRbRb n m) := ⟨rfl, rfl⟩

theorem EncodedLength.subbRbInd (n : BitVec 4) (i : BitVec 2) : EncodedLength.Statement (.subbRbInd n i) := ⟨rfl, rfl⟩

theorem EncodedLength.subbRbIndInc (n : BitVec 4) (i : BitVec 2) : EncodedLength.Statement (.subbRbIndInc n i) :=
  ⟨rfl, rfl⟩

theorem EncodedLength.subbRbData3 (n : BitVec 4) (d : BitVec 3) : EncodedLength.Statement (.subbRbData3 n d) :=
  ⟨rfl, rfl⟩

theorem EncodedLength.subbRegData8 (r d : Byte) : EncodedLength.Statement (.subbRegData8 r d) := ⟨rfl, rfl⟩

theorem EncodedLength.subbRegMem (r : Byte) (a : Word) : EncodedLength.Statement (.subbRegMem r a) := ⟨rfl, rfl⟩

theorem EncodedLength.subbMemReg (a : Word) (r : Byte) : EncodedLength.Statement (.subbMemReg a r) := ⟨rfl, rfl⟩

theorem EncodedLength.subcRwRw (n m : BitVec 4) : EncodedLength.Statement (.subcRwRw n m) := ⟨rfl, rfl⟩

theorem EncodedLength.subcRwInd (n : BitVec 4) (i : BitVec 2) : EncodedLength.Statement (.subcRwInd n i) := ⟨rfl, rfl⟩

theorem EncodedLength.subcRwIndInc (n : BitVec 4) (i : BitVec 2) : EncodedLength.Statement (.subcRwIndInc n i) :=
  ⟨rfl, rfl⟩

theorem EncodedLength.subcRwData3 (n : BitVec 4) (d : BitVec 3) : EncodedLength.Statement (.subcRwData3 n d) :=
  ⟨rfl, rfl⟩

theorem EncodedLength.subcRegData16 (r : Byte) (d : Word) : EncodedLength.Statement (.subcRegData16 r d) := ⟨rfl, rfl⟩

theorem EncodedLength.subcRegMem (r : Byte) (a : Word) : EncodedLength.Statement (.subcRegMem r a) := ⟨rfl, rfl⟩

theorem EncodedLength.subcMemReg (a : Word) (r : Byte) : EncodedLength.Statement (.subcMemReg a r) := ⟨rfl, rfl⟩

theorem EncodedLength.subcbRbRb (n m : BitVec 4) : EncodedLength.Statement (.subcbRbRb n m) := ⟨rfl, rfl⟩

theorem EncodedLength.subcbRbInd (n : BitVec 4) (i : BitVec 2) : EncodedLength.Statement (.subcbRbInd n i) := ⟨rfl, rfl⟩

theorem EncodedLength.subcbRbIndInc (n : BitVec 4) (i : BitVec 2) : EncodedLength.Statement (.subcbRbIndInc n i) :=
  ⟨rfl, rfl⟩

theorem EncodedLength.subcbRbData3 (n : BitVec 4) (d : BitVec 3) : EncodedLength.Statement (.subcbRbData3 n d) :=
  ⟨rfl, rfl⟩

theorem EncodedLength.subcbRegData8 (r d : Byte) : EncodedLength.Statement (.subcbRegData8 r d) := ⟨rfl, rfl⟩

theorem EncodedLength.subcbRegMem (r : Byte) (a : Word) : EncodedLength.Statement (.subcbRegMem r a) := ⟨rfl, rfl⟩

theorem EncodedLength.subcbMemReg (a : Word) (r : Byte) : EncodedLength.Statement (.subcbMemReg a r) := ⟨rfl, rfl⟩

theorem EncodedLength.cmpRwRw (n m : BitVec 4) : EncodedLength.Statement (.cmpRwRw n m) := ⟨rfl, rfl⟩

theorem EncodedLength.cmpRwInd (n : BitVec 4) (i : BitVec 2) : EncodedLength.Statement (.cmpRwInd n i) := ⟨rfl, rfl⟩

theorem EncodedLength.cmpRwIndInc (n : BitVec 4) (i : BitVec 2) : EncodedLength.Statement (.cmpRwIndInc n i) :=
  ⟨rfl, rfl⟩

theorem EncodedLength.cmpRwData3 (n : BitVec 4) (d : BitVec 3) : EncodedLength.Statement (.cmpRwData3 n d) := ⟨rfl, rfl⟩

theorem EncodedLength.cmpRegData16 (r : Byte) (d : Word) : EncodedLength.Statement (.cmpRegData16 r d) := ⟨rfl, rfl⟩

theorem EncodedLength.cmpRegMem (r : Byte) (a : Word) : EncodedLength.Statement (.cmpRegMem r a) := ⟨rfl, rfl⟩

theorem EncodedLength.cmpbRbRb (n m : BitVec 4) : EncodedLength.Statement (.cmpbRbRb n m) := ⟨rfl, rfl⟩

theorem EncodedLength.cmpbRbInd (n : BitVec 4) (i : BitVec 2) : EncodedLength.Statement (.cmpbRbInd n i) := ⟨rfl, rfl⟩

theorem EncodedLength.cmpbRbIndInc (n : BitVec 4) (i : BitVec 2) : EncodedLength.Statement (.cmpbRbIndInc n i) :=
  ⟨rfl, rfl⟩

theorem EncodedLength.cmpbRbData3 (n : BitVec 4) (d : BitVec 3) : EncodedLength.Statement (.cmpbRbData3 n d) :=
  ⟨rfl, rfl⟩

theorem EncodedLength.cmpbRegData8 (r d : Byte) : EncodedLength.Statement (.cmpbRegData8 r d) := ⟨rfl, rfl⟩

theorem EncodedLength.cmpbRegMem (r : Byte) (a : Word) : EncodedLength.Statement (.cmpbRegMem r a) := ⟨rfl, rfl⟩

theorem EncodedLength.xorRwRw (n m : BitVec 4) : EncodedLength.Statement (.xorRwRw n m) := ⟨rfl, rfl⟩

theorem EncodedLength.xorRwInd (n : BitVec 4) (i : BitVec 2) : EncodedLength.Statement (.xorRwInd n i) := ⟨rfl, rfl⟩

theorem EncodedLength.xorRwIndInc (n : BitVec 4) (i : BitVec 2) : EncodedLength.Statement (.xorRwIndInc n i) :=
  ⟨rfl, rfl⟩

theorem EncodedLength.xorRwData3 (n : BitVec 4) (d : BitVec 3) : EncodedLength.Statement (.xorRwData3 n d) := ⟨rfl, rfl⟩

theorem EncodedLength.xorRegData16 (r : Byte) (d : Word) : EncodedLength.Statement (.xorRegData16 r d) := ⟨rfl, rfl⟩

theorem EncodedLength.xorRegMem (r : Byte) (a : Word) : EncodedLength.Statement (.xorRegMem r a) := ⟨rfl, rfl⟩

theorem EncodedLength.xorMemReg (a : Word) (r : Byte) : EncodedLength.Statement (.xorMemReg a r) := ⟨rfl, rfl⟩

theorem EncodedLength.xorbRbRb (n m : BitVec 4) : EncodedLength.Statement (.xorbRbRb n m) := ⟨rfl, rfl⟩

theorem EncodedLength.xorbRbInd (n : BitVec 4) (i : BitVec 2) : EncodedLength.Statement (.xorbRbInd n i) := ⟨rfl, rfl⟩

theorem EncodedLength.xorbRbIndInc (n : BitVec 4) (i : BitVec 2) : EncodedLength.Statement (.xorbRbIndInc n i) :=
  ⟨rfl, rfl⟩

theorem EncodedLength.xorbRbData3 (n : BitVec 4) (d : BitVec 3) : EncodedLength.Statement (.xorbRbData3 n d) :=
  ⟨rfl, rfl⟩

theorem EncodedLength.xorbRegData8 (r d : Byte) : EncodedLength.Statement (.xorbRegData8 r d) := ⟨rfl, rfl⟩

theorem EncodedLength.xorbRegMem (r : Byte) (a : Word) : EncodedLength.Statement (.xorbRegMem r a) := ⟨rfl, rfl⟩

theorem EncodedLength.xorbMemReg (a : Word) (r : Byte) : EncodedLength.Statement (.xorbMemReg a r) := ⟨rfl, rfl⟩

theorem EncodedLength.andRwRw (n m : BitVec 4) : EncodedLength.Statement (.andRwRw n m) := ⟨rfl, rfl⟩

theorem EncodedLength.andRwInd (n : BitVec 4) (i : BitVec 2) : EncodedLength.Statement (.andRwInd n i) := ⟨rfl, rfl⟩

theorem EncodedLength.andRwIndInc (n : BitVec 4) (i : BitVec 2) : EncodedLength.Statement (.andRwIndInc n i) :=
  ⟨rfl, rfl⟩

theorem EncodedLength.andRwData3 (n : BitVec 4) (d : BitVec 3) : EncodedLength.Statement (.andRwData3 n d) := ⟨rfl, rfl⟩

theorem EncodedLength.andRegData16 (r : Byte) (d : Word) : EncodedLength.Statement (.andRegData16 r d) := ⟨rfl, rfl⟩

theorem EncodedLength.andRegMem (r : Byte) (a : Word) : EncodedLength.Statement (.andRegMem r a) := ⟨rfl, rfl⟩

theorem EncodedLength.andMemReg (a : Word) (r : Byte) : EncodedLength.Statement (.andMemReg a r) := ⟨rfl, rfl⟩

theorem EncodedLength.andbRbRb (n m : BitVec 4) : EncodedLength.Statement (.andbRbRb n m) := ⟨rfl, rfl⟩

theorem EncodedLength.andbRbInd (n : BitVec 4) (i : BitVec 2) : EncodedLength.Statement (.andbRbInd n i) := ⟨rfl, rfl⟩

theorem EncodedLength.andbRbIndInc (n : BitVec 4) (i : BitVec 2) : EncodedLength.Statement (.andbRbIndInc n i) :=
  ⟨rfl, rfl⟩

theorem EncodedLength.andbRbData3 (n : BitVec 4) (d : BitVec 3) : EncodedLength.Statement (.andbRbData3 n d) :=
  ⟨rfl, rfl⟩

theorem EncodedLength.andbRegData8 (r d : Byte) : EncodedLength.Statement (.andbRegData8 r d) := ⟨rfl, rfl⟩

theorem EncodedLength.andbRegMem (r : Byte) (a : Word) : EncodedLength.Statement (.andbRegMem r a) := ⟨rfl, rfl⟩

theorem EncodedLength.andbMemReg (a : Word) (r : Byte) : EncodedLength.Statement (.andbMemReg a r) := ⟨rfl, rfl⟩

theorem EncodedLength.orRwRw (n m : BitVec 4) : EncodedLength.Statement (.orRwRw n m) := ⟨rfl, rfl⟩

theorem EncodedLength.orRwInd (n : BitVec 4) (i : BitVec 2) : EncodedLength.Statement (.orRwInd n i) := ⟨rfl, rfl⟩

theorem EncodedLength.orRwIndInc (n : BitVec 4) (i : BitVec 2) : EncodedLength.Statement (.orRwIndInc n i) := ⟨rfl, rfl⟩

theorem EncodedLength.orRwData3 (n : BitVec 4) (d : BitVec 3) : EncodedLength.Statement (.orRwData3 n d) := ⟨rfl, rfl⟩

theorem EncodedLength.orRegData16 (r : Byte) (d : Word) : EncodedLength.Statement (.orRegData16 r d) := ⟨rfl, rfl⟩

theorem EncodedLength.orRegMem (r : Byte) (a : Word) : EncodedLength.Statement (.orRegMem r a) := ⟨rfl, rfl⟩

theorem EncodedLength.orMemReg (a : Word) (r : Byte) : EncodedLength.Statement (.orMemReg a r) := ⟨rfl, rfl⟩

theorem EncodedLength.orbRbRb (n m : BitVec 4) : EncodedLength.Statement (.orbRbRb n m) := ⟨rfl, rfl⟩

theorem EncodedLength.orbRbInd (n : BitVec 4) (i : BitVec 2) : EncodedLength.Statement (.orbRbInd n i) := ⟨rfl, rfl⟩

theorem EncodedLength.orbRbIndInc (n : BitVec 4) (i : BitVec 2) : EncodedLength.Statement (.orbRbIndInc n i) :=
  ⟨rfl, rfl⟩

theorem EncodedLength.orbRbData3 (n : BitVec 4) (d : BitVec 3) : EncodedLength.Statement (.orbRbData3 n d) := ⟨rfl, rfl⟩

theorem EncodedLength.orbRegData8 (r d : Byte) : EncodedLength.Statement (.orbRegData8 r d) := ⟨rfl, rfl⟩

theorem EncodedLength.orbRegMem (r : Byte) (a : Word) : EncodedLength.Statement (.orbRegMem r a) := ⟨rfl, rfl⟩

theorem EncodedLength.orbMemReg (a : Word) (r : Byte) : EncodedLength.Statement (.orbMemReg a r) := ⟨rfl, rfl⟩

theorem EncodedLength.rolRwRw (n m : BitVec 4) : EncodedLength.Statement (.rolRwRw n m) := ⟨rfl, rfl⟩

theorem EncodedLength.rolRwData4 (n d : BitVec 4) : EncodedLength.Statement (.rolRwData4 n d) := ⟨rfl, rfl⟩

theorem EncodedLength.rorRwRw (n m : BitVec 4) : EncodedLength.Statement (.rorRwRw n m) := ⟨rfl, rfl⟩

theorem EncodedLength.rorRwData4 (n d : BitVec 4) : EncodedLength.Statement (.rorRwData4 n d) := ⟨rfl, rfl⟩

theorem EncodedLength.shlRwRw (n m : BitVec 4) : EncodedLength.Statement (.shlRwRw n m) := ⟨rfl, rfl⟩

theorem EncodedLength.shlRwData4 (n d : BitVec 4) : EncodedLength.Statement (.shlRwData4 n d) := ⟨rfl, rfl⟩

theorem EncodedLength.shrRwRw (n m : BitVec 4) : EncodedLength.Statement (.shrRwRw n m) := ⟨rfl, rfl⟩

theorem EncodedLength.shrRwData4 (n d : BitVec 4) : EncodedLength.Statement (.shrRwData4 n d) := ⟨rfl, rfl⟩

theorem EncodedLength.ashrRwRw (n m : BitVec 4) : EncodedLength.Statement (.ashrRwRw n m) := ⟨rfl, rfl⟩

theorem EncodedLength.ashrRwData4 (n d : BitVec 4) : EncodedLength.Statement (.ashrRwData4 n d) := ⟨rfl, rfl⟩

theorem EncodedLength.priorRwRw (n m : BitVec 4) : EncodedLength.Statement (.priorRwRw n m) := ⟨rfl, rfl⟩

theorem EncodedLength.atomic (g : BitVec 2) : EncodedLength.Statement (.atomic g) := ⟨rfl, rfl⟩

theorem EncodedLength.extr (g : BitVec 2) : EncodedLength.Statement (.extr g) := ⟨rfl, rfl⟩

theorem EncodedLength.extsRw (m : BitVec 4) (g : BitVec 2) : EncodedLength.Statement (.extsRw m g) := ⟨rfl, rfl⟩

theorem EncodedLength.extsSeg (sg : Byte) (g : BitVec 2) : EncodedLength.Statement (.extsSeg sg g) := ⟨rfl, rfl⟩

theorem EncodedLength.extpRw (m : BitVec 4) (g : BitVec 2) : EncodedLength.Statement (.extpRw m g) := ⟨rfl, rfl⟩

theorem EncodedLength.extpPag (p : BitVec 10) (g : BitVec 2) : EncodedLength.Statement (.extpPag p g) := ⟨rfl, rfl⟩

theorem EncodedLength.extsrRw (m : BitVec 4) (g : BitVec 2) : EncodedLength.Statement (.extsrRw m g) := ⟨rfl, rfl⟩

theorem EncodedLength.extsrSeg (sg : Byte) (g : BitVec 2) : EncodedLength.Statement (.extsrSeg sg g) := ⟨rfl, rfl⟩

theorem EncodedLength.extprRw (m : BitVec 4) (g : BitVec 2) : EncodedLength.Statement (.extprRw m g) := ⟨rfl, rfl⟩

theorem EncodedLength.extprPag (p : BitVec 10) (g : BitVec 2) : EncodedLength.Statement (.extprPag p g) := ⟨rfl, rfl⟩

theorem EncodedLength.bfldl (q mask d : Byte) : EncodedLength.Statement (.bfldl q mask d) := ⟨rfl, rfl⟩

theorem EncodedLength.bfldh (q mask d : Byte) : EncodedLength.Statement (.bfldh q mask d) := ⟨rfl, rfl⟩

theorem EncodedLength.bcmp (dst src : BitAddr) : EncodedLength.Statement (.bcmp dst src) := ⟨rfl, rfl⟩

theorem EncodedLength.bmovn (dst src : BitAddr) : EncodedLength.Statement (.bmovn dst src) := ⟨rfl, rfl⟩

theorem EncodedLength.bmov (dst src : BitAddr) : EncodedLength.Statement (.bmov dst src) := ⟨rfl, rfl⟩

theorem EncodedLength.bor (dst src : BitAddr) : EncodedLength.Statement (.bor dst src) := ⟨rfl, rfl⟩

theorem EncodedLength.band (dst src : BitAddr) : EncodedLength.Statement (.band dst src) := ⟨rfl, rfl⟩

theorem EncodedLength.bxor (dst src : BitAddr) : EncodedLength.Statement (.bxor dst src) := ⟨rfl, rfl⟩

theorem EncodedLength.jb (b : BitAddr) (rel : Byte) : EncodedLength.Statement (.jb b rel) := ⟨rfl, rfl⟩

theorem EncodedLength.jnb (b : BitAddr) (rel : Byte) : EncodedLength.Statement (.jnb b rel) := ⟨rfl, rfl⟩

theorem EncodedLength.jbc (b : BitAddr) (rel : Byte) : EncodedLength.Statement (.jbc b rel) := ⟨rfl, rfl⟩

theorem EncodedLength.jnbs (b : BitAddr) (rel : Byte) : EncodedLength.Statement (.jnbs b rel) := ⟨rfl, rfl⟩

theorem EncodedLength.bclr (b : BitAddr) : EncodedLength.Statement (.bclr b) :=
  ⟨rfl, by simp [encode, lengthOf, Instr.length]⟩

theorem EncodedLength.bset (b : BitAddr) : EncodedLength.Statement (.bset b) :=
  ⟨rfl, by simp [encode, lengthOf, Instr.length]⟩

theorem EncodedLength.calla (cc : Cond) (a : Word) : EncodedLength.Statement (.calla cc a) := ⟨rfl, rfl⟩

theorem EncodedLength.jmpa (cc : Cond) (a : Word) : EncodedLength.Statement (.jmpa cc a) := ⟨rfl, rfl⟩

theorem EncodedLength.calli (cc : Cond) (n : BitVec 4) : EncodedLength.Statement (.calli cc n) := ⟨rfl, rfl⟩

theorem EncodedLength.jmpi (cc : Cond) (n : BitVec 4) : EncodedLength.Statement (.jmpi cc n) := ⟨rfl, rfl⟩

theorem EncodedLength.callr (rel : Byte) : EncodedLength.Statement (.callr rel) := ⟨rfl, rfl⟩

theorem EncodedLength.jmpr (cc : Cond) (rel : Byte) : EncodedLength.Statement (.jmpr cc rel) :=
  ⟨rfl, by simp [encode, lengthOf, Instr.length]⟩

theorem EncodedLength.calls (sg : Byte) (a : Word) : EncodedLength.Statement (.calls sg a) := ⟨rfl, rfl⟩

theorem EncodedLength.jmps (sg : Byte) (a : Word) : EncodedLength.Statement (.jmps sg a) := ⟨rfl, rfl⟩

theorem EncodedLength.pcall (r : Byte) (a : Word) : EncodedLength.Statement (.pcall r a) := ⟨rfl, rfl⟩

theorem EncodedLength.ret : EncodedLength.Statement .ret := ⟨rfl, rfl⟩

theorem EncodedLength.rets : EncodedLength.Statement .rets := ⟨rfl, rfl⟩

theorem EncodedLength.reti : EncodedLength.Statement .reti := ⟨rfl, rfl⟩

theorem EncodedLength.retp (r : Byte) : EncodedLength.Statement (.retp r) := ⟨rfl, rfl⟩

theorem EncodedLength.trap (t : BitVec 7) : EncodedLength.Statement (.trap t) := ⟨rfl, rfl⟩

theorem EncodedLength.cmpi1RwData4 (n d : BitVec 4) : EncodedLength.Statement (.cmpi1RwData4 n d) := ⟨rfl, rfl⟩

theorem EncodedLength.cmpi1RwData16 (n : BitVec 4) (d : Word) : EncodedLength.Statement (.cmpi1RwData16 n d) :=
  ⟨rfl, rfl⟩

theorem EncodedLength.cmpi1RwMem (n : BitVec 4) (a : Word) : EncodedLength.Statement (.cmpi1RwMem n a) := ⟨rfl, rfl⟩

theorem EncodedLength.cmpi2RwData4 (n d : BitVec 4) : EncodedLength.Statement (.cmpi2RwData4 n d) := ⟨rfl, rfl⟩

theorem EncodedLength.cmpi2RwData16 (n : BitVec 4) (d : Word) : EncodedLength.Statement (.cmpi2RwData16 n d) :=
  ⟨rfl, rfl⟩

theorem EncodedLength.cmpi2RwMem (n : BitVec 4) (a : Word) : EncodedLength.Statement (.cmpi2RwMem n a) := ⟨rfl, rfl⟩

theorem EncodedLength.cmpd1RwData4 (n d : BitVec 4) : EncodedLength.Statement (.cmpd1RwData4 n d) := ⟨rfl, rfl⟩

theorem EncodedLength.cmpd1RwData16 (n : BitVec 4) (d : Word) : EncodedLength.Statement (.cmpd1RwData16 n d) :=
  ⟨rfl, rfl⟩

theorem EncodedLength.cmpd1RwMem (n : BitVec 4) (a : Word) : EncodedLength.Statement (.cmpd1RwMem n a) := ⟨rfl, rfl⟩

theorem EncodedLength.cmpd2RwData4 (n d : BitVec 4) : EncodedLength.Statement (.cmpd2RwData4 n d) := ⟨rfl, rfl⟩

theorem EncodedLength.cmpd2RwData16 (n : BitVec 4) (d : Word) : EncodedLength.Statement (.cmpd2RwData16 n d) :=
  ⟨rfl, rfl⟩

theorem EncodedLength.cmpd2RwMem (n : BitVec 4) (a : Word) : EncodedLength.Statement (.cmpd2RwMem n a) := ⟨rfl, rfl⟩

theorem EncodedLength.neg (n : BitVec 4) : EncodedLength.Statement (.neg n) := ⟨rfl, rfl⟩

theorem EncodedLength.cpl (n : BitVec 4) : EncodedLength.Statement (.cpl n) := ⟨rfl, rfl⟩

theorem EncodedLength.negb (n : BitVec 4) : EncodedLength.Statement (.negb n) := ⟨rfl, rfl⟩

theorem EncodedLength.cplb (n : BitVec 4) : EncodedLength.Statement (.cplb n) := ⟨rfl, rfl⟩

theorem EncodedLength.diswdt : EncodedLength.Statement .diswdt := ⟨rfl, rfl⟩

theorem EncodedLength.einit : EncodedLength.Statement .einit := ⟨rfl, rfl⟩

theorem EncodedLength.idle : EncodedLength.Statement .idle := ⟨rfl, rfl⟩

theorem EncodedLength.pwrdn : EncodedLength.Statement .pwrdn := ⟨rfl, rfl⟩

theorem EncodedLength.srst : EncodedLength.Statement .srst := ⟨rfl, rfl⟩

theorem EncodedLength.srvwdt : EncodedLength.Statement .srvwdt := ⟨rfl, rfl⟩

theorem EncodedLength.nop : EncodedLength.Statement .nop := ⟨rfl, rfl⟩

theorem EncodedLength.mulRwRw (n m : BitVec 4) : EncodedLength.Statement (.mulRwRw n m) := ⟨rfl, rfl⟩

theorem EncodedLength.muluRwRw (n m : BitVec 4) : EncodedLength.Statement (.muluRwRw n m) := ⟨rfl, rfl⟩

theorem EncodedLength.div (n : BitVec 4) : EncodedLength.Statement (.div n) := ⟨rfl, rfl⟩

theorem EncodedLength.divu (n : BitVec 4) : EncodedLength.Statement (.divu n) := ⟨rfl, rfl⟩

theorem EncodedLength.divl (n : BitVec 4) : EncodedLength.Statement (.divl n) := ⟨rfl, rfl⟩

theorem EncodedLength.divlu (n : BitVec 4) : EncodedLength.Statement (.divlu n) := ⟨rfl, rfl⟩

theorem EncodedLength.movRwRw (n m : BitVec 4) : EncodedLength.Statement (.movRwRw n m) := ⟨rfl, rfl⟩

theorem EncodedLength.movRwData4 (n d : BitVec 4) : EncodedLength.Statement (.movRwData4 n d) := ⟨rfl, rfl⟩

theorem EncodedLength.movRegData16 (r : Byte) (d : Word) : EncodedLength.Statement (.movRegData16 r d) := ⟨rfl, rfl⟩

theorem EncodedLength.movRwInd (n m : BitVec 4) : EncodedLength.Statement (.movRwInd n m) := ⟨rfl, rfl⟩

theorem EncodedLength.movRwIndInc (n m : BitVec 4) : EncodedLength.Statement (.movRwIndInc n m) := ⟨rfl, rfl⟩

theorem EncodedLength.movIndRw (m n : BitVec 4) : EncodedLength.Statement (.movIndRw m n) := ⟨rfl, rfl⟩

theorem EncodedLength.movIndDecRw (m n : BitVec 4) : EncodedLength.Statement (.movIndDecRw m n) := ⟨rfl, rfl⟩

theorem EncodedLength.movIndInd (n m : BitVec 4) : EncodedLength.Statement (.movIndInd n m) := ⟨rfl, rfl⟩

theorem EncodedLength.movIndIncInd (n m : BitVec 4) : EncodedLength.Statement (.movIndIncInd n m) := ⟨rfl, rfl⟩

theorem EncodedLength.movIndIndInc (n m : BitVec 4) : EncodedLength.Statement (.movIndIndInc n m) := ⟨rfl, rfl⟩

theorem EncodedLength.movRwIndDisp (n m : BitVec 4) (d : Word) : EncodedLength.Statement (.movRwIndDisp n m d) :=
  ⟨rfl, rfl⟩

theorem EncodedLength.movIndDispRw (m : BitVec 4) (d : Word) (n : BitVec 4) : EncodedLength.Statement (.movIndDispRw m d n) :=
  ⟨rfl, rfl⟩

theorem EncodedLength.movIndMem (n : BitVec 4) (a : Word) : EncodedLength.Statement (.movIndMem n a) := ⟨rfl, rfl⟩

theorem EncodedLength.movMemInd (a : Word) (n : BitVec 4) : EncodedLength.Statement (.movMemInd a n) := ⟨rfl, rfl⟩

theorem EncodedLength.movRegMem (r : Byte) (a : Word) : EncodedLength.Statement (.movRegMem r a) := ⟨rfl, rfl⟩

theorem EncodedLength.movMemReg (a : Word) (r : Byte) : EncodedLength.Statement (.movMemReg a r) := ⟨rfl, rfl⟩

theorem EncodedLength.movbRbRb (n m : BitVec 4) : EncodedLength.Statement (.movbRbRb n m) := ⟨rfl, rfl⟩

theorem EncodedLength.movbRbData4 (n d : BitVec 4) : EncodedLength.Statement (.movbRbData4 n d) := ⟨rfl, rfl⟩

theorem EncodedLength.movbRegData8 (r d : Byte) : EncodedLength.Statement (.movbRegData8 r d) := ⟨rfl, rfl⟩

theorem EncodedLength.movbRbInd (n m : BitVec 4) : EncodedLength.Statement (.movbRbInd n m) := ⟨rfl, rfl⟩

theorem EncodedLength.movbRbIndInc (n m : BitVec 4) : EncodedLength.Statement (.movbRbIndInc n m) := ⟨rfl, rfl⟩

theorem EncodedLength.movbIndRb (m n : BitVec 4) : EncodedLength.Statement (.movbIndRb m n) := ⟨rfl, rfl⟩

theorem EncodedLength.movbIndDecRb (m n : BitVec 4) : EncodedLength.Statement (.movbIndDecRb m n) := ⟨rfl, rfl⟩

theorem EncodedLength.movbIndInd (n m : BitVec 4) : EncodedLength.Statement (.movbIndInd n m) := ⟨rfl, rfl⟩

theorem EncodedLength.movbIndIncInd (n m : BitVec 4) : EncodedLength.Statement (.movbIndIncInd n m) := ⟨rfl, rfl⟩

theorem EncodedLength.movbIndIndInc (n m : BitVec 4) : EncodedLength.Statement (.movbIndIndInc n m) := ⟨rfl, rfl⟩

theorem EncodedLength.movbRbIndDisp (n m : BitVec 4) (d : Word) : EncodedLength.Statement (.movbRbIndDisp n m d) :=
  ⟨rfl, rfl⟩

theorem EncodedLength.movbIndDispRb (m : BitVec 4) (d : Word) (n : BitVec 4) : EncodedLength.Statement (.movbIndDispRb m d n) :=
  ⟨rfl, rfl⟩

theorem EncodedLength.movbIndMem (n : BitVec 4) (a : Word) : EncodedLength.Statement (.movbIndMem n a) := ⟨rfl, rfl⟩

theorem EncodedLength.movbMemInd (a : Word) (n : BitVec 4) : EncodedLength.Statement (.movbMemInd a n) := ⟨rfl, rfl⟩

theorem EncodedLength.movbRegMem (r : Byte) (a : Word) : EncodedLength.Statement (.movbRegMem r a) := ⟨rfl, rfl⟩

theorem EncodedLength.movbMemReg (a : Word) (r : Byte) : EncodedLength.Statement (.movbMemReg a r) := ⟨rfl, rfl⟩

theorem EncodedLength.movbsRwRb (n m : BitVec 4) : EncodedLength.Statement (.movbsRwRb n m) := ⟨rfl, rfl⟩

theorem EncodedLength.movbsRegMem (r : Byte) (a : Word) : EncodedLength.Statement (.movbsRegMem r a) := ⟨rfl, rfl⟩

theorem EncodedLength.movbsMemReg (a : Word) (r : Byte) : EncodedLength.Statement (.movbsMemReg a r) := ⟨rfl, rfl⟩

theorem EncodedLength.movbszRwRb (n m : BitVec 4) : EncodedLength.Statement (.movbszRwRb n m) := ⟨rfl, rfl⟩

theorem EncodedLength.movbszRegMem (r : Byte) (a : Word) : EncodedLength.Statement (.movbszRegMem r a) := ⟨rfl, rfl⟩

theorem EncodedLength.movbszMemReg (a : Word) (r : Byte) : EncodedLength.Statement (.movbszMemReg a r) := ⟨rfl, rfl⟩

theorem EncodedLength.pop (r : Byte) : EncodedLength.Statement (.pop r) := ⟨rfl, rfl⟩

theorem EncodedLength.push (r : Byte) : EncodedLength.Statement (.push r) := ⟨rfl, rfl⟩

theorem EncodedLength.scxtRegData16 (r : Byte) (d : Word) : EncodedLength.Statement (.scxtRegData16 r d) := ⟨rfl, rfl⟩

theorem EncodedLength.scxtRegMem (r : Byte) (a : Word) : EncodedLength.Statement (.scxtRegMem r a) := ⟨rfl, rfl⟩

end Sys2Proof.Laws
end

