-- ==== Sys2Proof/Laws/Psw.lean ====
section
/-! SUPPORT. PSW bit by bit, in any layout (10_state.md R27). -/

namespace Sys2Proof.Machine

/-- Each bit of a WORD with one bit replaced. -/
@[simp] theorem getLsbD_withBit (w : Word) (i j : Nat) (b : Bool) :
    (withBit w i b).getLsbD j = if j = i ∧ j < 16 then b else w.getLsbD j := by
  unfold withBit
  by_cases hj : j < 16
  · by_cases hi : j = i
    · subst hi
      cases b <;> simp [hj]
    · cases b
      · simp [hj, hi]
        intro _
        omega
      · simp [hj, hi]
        intro _ _
        omega
  · have hw : w.getLsbD j = false := BitVec.getLsbD_of_ge _ _ (by omega)
    cases b <;> simp [hj, hw]

/-- The places of the single bits lie apart. -/
theorem PswLayout.places_nodup {l : PswLayout} (h : l.wf = true) : l.places.Nodup := by
  simp only [PswLayout.wf, Bool.and_eq_true, decide_eq_true_eq] at h
  exact h.1.1.1

/-- ILVL fits. -/
theorem PswLayout.ilvl_le {l : PswLayout} (h : l.wf = true) : l.ilvl.toNat ≤ 12 := by
  simp only [PswLayout.wf, Bool.and_eq_true, decide_eq_true_eq] at h
  exact h.1.1.2

/-- No single bit is reserved or lies in ILVL. -/
theorem PswLayout.place_free {l : PswLayout} (h : l.wf = true) {p : BitVec 4} (hp : p ∈ l.places) :
    l.reserved.getLsbD p.toNat = false ∧ (p.toNat < l.ilvl.toNat ∨ l.ilvl.toNat + 4 ≤ p.toNat) := by
  simp only [PswLayout.wf, Bool.and_eq_true, List.all_eq_true] at h
  have := h.2 p hp
  simpa using this

/-- No bit of ILVL is reserved. -/
theorem PswLayout.ilvl_free {l : PswLayout} (h : l.wf = true) {j : Nat} (h1 : l.ilvl.toNat ≤ j)
    (h2 : j < l.ilvl.toNat + 4) : l.reserved.getLsbD j = false := by
  simp only [PswLayout.wf, Bool.and_eq_true, decide_eq_true_eq] at h
  have hz := congrArg (fun x => BitVec.getLsbD x (j - l.ilvl.toNat)) h.1.2
  simp only [BitVec.getLsbD_extractLsb'] at hz
  have hlt : j - l.ilvl.toNat < 4 := by omega
  have hadd : l.ilvl.toNat + (j - l.ilvl.toNat) = j := by omega
  simpa [hlt, hadd] using hz

/-- A bit that is no flag is kept. -/
theorem getLsbD_withFlags_other (l : PswLayout) (w : Word) (f : Flags) (j : Nat)
    (h : ∀ p ∈ [l.n, l.c, l.v, l.z, l.e], j ≠ p.toNat) : (withFlags l w f).getLsbD j = w.getLsbD j := by
  have hn := h l.n (by simp)
  have hc := h l.c (by simp)
  have hv := h l.v (by simp)
  have hz := h l.z (by simp)
  have he := h l.e (by simp)
  simp [withFlags, hn, hc, hv, hz, he]

/-- The mask of a four-bit field. -/
theorem getLsbD_fieldMask (k : Nat) : (0x000F : Word).getLsbD k = decide (k < 4) := by
  by_cases hk : k < 16
  · revert k; decide
  · rw [BitVec.getLsbD_of_ge _ _ (by omega)]
    simp; omega

/-- Each bit of a PSW value with ILVL replaced. -/
theorem getLsbD_withIlvl (l : PswLayout) (w : Word) (level : BitVec 4) (j : Nat) (hj : j < 16) :
    (withIlvl l w level).getLsbD j =
      if l.ilvl.toNat ≤ j ∧ j < l.ilvl.toNat + 4 then level.getLsbD (j - l.ilvl.toNat) else w.getLsbD j := by
  simp only [withIlvl, BitVec.getLsbD_or, BitVec.getLsbD_and, BitVec.getLsbD_not, BitVec.getLsbD_shiftLeft,
    BitVec.getLsbD_setWidth, getLsbD_fieldMask, hj, decide_true, Bool.true_and]
  by_cases h1 : l.ilvl.toNat ≤ j
  · have hk : j - l.ilvl.toNat < 16 := by omega
    have hlt : ¬ j < l.ilvl.toNat := by omega
    by_cases h2 : j < l.ilvl.toNat + 4
    · have h4 : j - l.ilvl.toNat < 4 := by omega
      simp only [h1, h2, h4, hk, hlt, decide_true, decide_false, Bool.not_false, Bool.true_and, Bool.not_true,
        Bool.and_false, Bool.false_or, and_self, if_true]
    · have h4 : ¬ j - l.ilvl.toNat < 4 := by omega
      have hl : level.getLsbD (j - l.ilvl.toNat) = false := BitVec.getLsbD_of_ge _ _ (by omega)
      simp only [hl, h2, h4, hk, hlt, decide_false, decide_true, Bool.not_false, Bool.and_true,
        Bool.or_false, and_false, if_false, Bool.and_false]
  · have hlt : j < l.ilvl.toNat := by omega
    simp only [h1, hlt, decide_true, Bool.not_true, Bool.false_and, Bool.not_false, Bool.and_true, Bool.or_false,
      false_and, if_false]

/-- Flags written as they are change nothing. -/
theorem withFlags_flagsOf (l : PswLayout) (w : Word) : withFlags l w (flagsOf l w) = w := by
  apply BitVec.eq_of_getLsbD_eq
  intro j hj
  simp only [withFlags, flagsOf, getLsbD_withBit]
  repeat' split
  all_goals simp_all

end Sys2Proof.Machine
end

