-- ==== Sys2Proof/Tests/Slice0.lean ====
section
/-! SUPPORT. Tests. Expected values come from the spec: the encodings of 30_encoding.md, the vectors of
95_test_vectors.md, and the rules named. The theorems `test_witness_<Name>` show, for each statement with hypotheses, a
state and operands that meet them. -/

namespace Sys2Proof.Tests

open Sys2Proof.Machine

/-! ## Which instructions a device has -/

/-- R228: without `HAS_EXT` a sequence instruction is ill-formed. -/
theorem test_wf_sequence :
    (Instr.atomic 0).wf { hasExt := false } = false ∧ (Instr.extr 0).wf { hasExt := false } = false ∧
    (Instr.extsRw 1 0).wf { hasExt := false } = false ∧ (Instr.extsSeg 1 0).wf { hasExt := false } = false ∧
    (Instr.extpRw 1 0).wf { hasExt := false } = false ∧ (Instr.extpPag 1 0).wf { hasExt := false } = false ∧
    (Instr.extsrRw 1 0).wf { hasExt := false } = false ∧ (Instr.extsrSeg 1 0).wf { hasExt := false } = false ∧
    (Instr.extprRw 1 0).wf { hasExt := false } = false ∧ (Instr.extprPag 1 0).wf { hasExt := false } = false := by
  decide

/-- R113: with a 2-bit segment number a segment operand above 3 is ill-formed. -/
theorem test_wf_segment :
    (Instr.calls 4 0).wf { segWidth := .two } = false ∧ (Instr.jmps 4 0).wf { segWidth := .two } = false ∧
    (Instr.extsSeg 4 0).wf { segWidth := .two } = false ∧ (Instr.extsrSeg 4 0).wf { segWidth := .two } = false ∧
    (Instr.calls 3 0).wf { segWidth := .two } = true ∧ (Instr.calls 4 0).wf {} = true := by decide

/-! ## Helpers -/

/-- The state of the conventions of 95_test_vectors.md with a PSW and some WORDs of memory. -/
def start (psw : Word) (words : List (Nat × Word)) : State :=
  { State.reset with
    ip := 0x1000, psw := psw,
    mem := words.foldl (fun m x => (m.set x.1 (lowByte x.2)).set (x.1 + 1) (highByte x.2)) [] }

/-- One step with an instruction at the fetch address ends in a next state of which `p` holds. -/
def runs (bytes : List Byte) (s : State) (p : State → Bool) : Bool :=
  match step (placeBytes 0 bytes s) with
  | .next t => p t
  | _ => false

/-! ## Decoding: a word of every row of the opcode table, written from its encoding (30_encoding.md R103) -/

theorem test_decode_add :
    decode [0x00, 0x59] = .instr (.addRwRw 5 9) [] ∧
    decode [0x08, 0x5A] = .instr (.addRwInd 5 2) [] ∧
    decode [0x08, 0x5E] = .instr (.addRwIndInc 5 2) [] ∧
    decode [0x08, 0x55] = .instr (.addRwData3 5 0x5) [] ∧
    decode [0x06, 0xF3, 0x34, 0x12] = .instr (.addRegData16 0xf3 0x1234) [] ∧
    decode [0x02, 0xF3, 0x34, 0x12] = .instr (.addRegMem 0xf3 0x1234) [] ∧
    decode [0x04, 0xF3, 0x34, 0x12] = .instr (.addMemReg 0x1234 0xf3) [] := by decide

theorem test_decode_addb :
    decode [0x01, 0x59] = .instr (.addbRbRb 5 9) [] ∧
    decode [0x09, 0x5A] = .instr (.addbRbInd 5 2) [] ∧
    decode [0x09, 0x5E] = .instr (.addbRbIndInc 5 2) [] ∧
    decode [0x09, 0x55] = .instr (.addbRbData3 5 0x5) [] ∧
    decode [0x07, 0xF3, 0xA7, 0x99] = .instr (.addbRegData8 0xf3 0xa7) [] ∧
    decode [0x03, 0xF3, 0x34, 0x12] = .instr (.addbRegMem 0xf3 0x1234) [] ∧
    decode [0x05, 0xF3, 0x34, 0x12] = .instr (.addbMemReg 0x1234 0xf3) [] := by decide

theorem test_decode_addc :
    decode [0x10, 0x59] = .instr (.addcRwRw 5 9) [] ∧
    decode [0x18, 0x5A] = .instr (.addcRwInd 5 2) [] ∧
    decode [0x18, 0x5E] = .instr (.addcRwIndInc 5 2) [] ∧
    decode [0x18, 0x55] = .instr (.addcRwData3 5 0x5) [] ∧
    decode [0x16, 0xF3, 0x34, 0x12] = .instr (.addcRegData16 0xf3 0x1234) [] ∧
    decode [0x12, 0xF3, 0x34, 0x12] = .instr (.addcRegMem 0xf3 0x1234) [] ∧
    decode [0x14, 0xF3, 0x34, 0x12] = .instr (.addcMemReg 0x1234 0xf3) [] := by decide

theorem test_decode_addcb :
    decode [0x11, 0x59] = .instr (.addcbRbRb 5 9) [] ∧
    decode [0x19, 0x5A] = .instr (.addcbRbInd 5 2) [] ∧
    decode [0x19, 0x5E] = .instr (.addcbRbIndInc 5 2) [] ∧
    decode [0x19, 0x55] = .instr (.addcbRbData3 5 0x5) [] ∧
    decode [0x17, 0xF3, 0xA7, 0x99] = .instr (.addcbRegData8 0xf3 0xa7) [] ∧
    decode [0x13, 0xF3, 0x34, 0x12] = .instr (.addcbRegMem 0xf3 0x1234) [] ∧
    decode [0x15, 0xF3, 0x34, 0x12] = .instr (.addcbMemReg 0x1234 0xf3) [] := by decide

theorem test_decode_sub :
    decode [0x20, 0x59] = .instr (.subRwRw 5 9) [] ∧
    decode [0x28, 0x5A] = .instr (.subRwInd 5 2) [] ∧
    decode [0x28, 0x5E] = .instr (.subRwIndInc 5 2) [] ∧
    decode [0x28, 0x55] = .instr (.subRwData3 5 0x5) [] ∧
    decode [0x26, 0xF3, 0x34, 0x12] = .instr (.subRegData16 0xf3 0x1234) [] ∧
    decode [0x22, 0xF3, 0x34, 0x12] = .instr (.subRegMem 0xf3 0x1234) [] ∧
    decode [0x24, 0xF3, 0x34, 0x12] = .instr (.subMemReg 0x1234 0xf3) [] := by decide

theorem test_decode_subb :
    decode [0x21, 0x59] = .instr (.subbRbRb 5 9) [] ∧
    decode [0x29, 0x5A] = .instr (.subbRbInd 5 2) [] ∧
    decode [0x29, 0x5E] = .instr (.subbRbIndInc 5 2) [] ∧
    decode [0x29, 0x55] = .instr (.subbRbData3 5 0x5) [] ∧
    decode [0x27, 0xF3, 0xA7, 0x99] = .instr (.subbRegData8 0xf3 0xa7) [] ∧
    decode [0x23, 0xF3, 0x34, 0x12] = .instr (.subbRegMem 0xf3 0x1234) [] ∧
    decode [0x25, 0xF3, 0x34, 0x12] = .instr (.subbMemReg 0x1234 0xf3) [] := by decide

theorem test_decode_subc :
    decode [0x30, 0x59] = .instr (.subcRwRw 5 9) [] ∧
    decode [0x38, 0x5A] = .instr (.subcRwInd 5 2) [] ∧
    decode [0x38, 0x5E] = .instr (.subcRwIndInc 5 2) [] ∧
    decode [0x38, 0x55] = .instr (.subcRwData3 5 0x5) [] ∧
    decode [0x36, 0xF3, 0x34, 0x12] = .instr (.subcRegData16 0xf3 0x1234) [] ∧
    decode [0x32, 0xF3, 0x34, 0x12] = .instr (.subcRegMem 0xf3 0x1234) [] ∧
    decode [0x34, 0xF3, 0x34, 0x12] = .instr (.subcMemReg 0x1234 0xf3) [] := by decide

theorem test_decode_subcb :
    decode [0x31, 0x59] = .instr (.subcbRbRb 5 9) [] ∧
    decode [0x39, 0x5A] = .instr (.subcbRbInd 5 2) [] ∧
    decode [0x39, 0x5E] = .instr (.subcbRbIndInc 5 2) [] ∧
    decode [0x39, 0x55] = .instr (.subcbRbData3 5 0x5) [] ∧
    decode [0x37, 0xF3, 0xA7, 0x99] = .instr (.subcbRegData8 0xf3 0xa7) [] ∧
    decode [0x33, 0xF3, 0x34, 0x12] = .instr (.subcbRegMem 0xf3 0x1234) [] ∧
    decode [0x35, 0xF3, 0x34, 0x12] = .instr (.subcbMemReg 0x1234 0xf3) [] := by decide

theorem test_decode_cmp :
    decode [0x40, 0x59] = .instr (.cmpRwRw 5 9) [] ∧
    decode [0x48, 0x5A] = .instr (.cmpRwInd 5 2) [] ∧
    decode [0x48, 0x5E] = .instr (.cmpRwIndInc 5 2) [] ∧
    decode [0x48, 0x55] = .instr (.cmpRwData3 5 0x5) [] ∧
    decode [0x46, 0xF3, 0x34, 0x12] = .instr (.cmpRegData16 0xf3 0x1234) [] ∧
    decode [0x42, 0xF3, 0x34, 0x12] = .instr (.cmpRegMem 0xf3 0x1234) [] := by decide

theorem test_decode_cmpb :
    decode [0x41, 0x59] = .instr (.cmpbRbRb 5 9) [] ∧
    decode [0x49, 0x5A] = .instr (.cmpbRbInd 5 2) [] ∧
    decode [0x49, 0x5E] = .instr (.cmpbRbIndInc 5 2) [] ∧
    decode [0x49, 0x55] = .instr (.cmpbRbData3 5 0x5) [] ∧
    decode [0x47, 0xF3, 0xA7, 0x99] = .instr (.cmpbRegData8 0xf3 0xa7) [] ∧
    decode [0x43, 0xF3, 0x34, 0x12] = .instr (.cmpbRegMem 0xf3 0x1234) [] := by decide

theorem test_decode_xor :
    decode [0x50, 0x59] = .instr (.xorRwRw 5 9) [] ∧
    decode [0x58, 0x5A] = .instr (.xorRwInd 5 2) [] ∧
    decode [0x58, 0x5E] = .instr (.xorRwIndInc 5 2) [] ∧
    decode [0x58, 0x55] = .instr (.xorRwData3 5 0x5) [] ∧
    decode [0x56, 0xF3, 0x34, 0x12] = .instr (.xorRegData16 0xf3 0x1234) [] ∧
    decode [0x52, 0xF3, 0x34, 0x12] = .instr (.xorRegMem 0xf3 0x1234) [] ∧
    decode [0x54, 0xF3, 0x34, 0x12] = .instr (.xorMemReg 0x1234 0xf3) [] := by decide

theorem test_decode_xorb :
    decode [0x51, 0x59] = .instr (.xorbRbRb 5 9) [] ∧
    decode [0x59, 0x5A] = .instr (.xorbRbInd 5 2) [] ∧
    decode [0x59, 0x5E] = .instr (.xorbRbIndInc 5 2) [] ∧
    decode [0x59, 0x55] = .instr (.xorbRbData3 5 0x5) [] ∧
    decode [0x57, 0xF3, 0xA7, 0x99] = .instr (.xorbRegData8 0xf3 0xa7) [] ∧
    decode [0x53, 0xF3, 0x34, 0x12] = .instr (.xorbRegMem 0xf3 0x1234) [] ∧
    decode [0x55, 0xF3, 0x34, 0x12] = .instr (.xorbMemReg 0x1234 0xf3) [] := by decide

theorem test_decode_and :
    decode [0x60, 0x59] = .instr (.andRwRw 5 9) [] ∧
    decode [0x68, 0x5A] = .instr (.andRwInd 5 2) [] ∧
    decode [0x68, 0x5E] = .instr (.andRwIndInc 5 2) [] ∧
    decode [0x68, 0x55] = .instr (.andRwData3 5 0x5) [] ∧
    decode [0x66, 0xF3, 0x34, 0x12] = .instr (.andRegData16 0xf3 0x1234) [] ∧
    decode [0x62, 0xF3, 0x34, 0x12] = .instr (.andRegMem 0xf3 0x1234) [] ∧
    decode [0x64, 0xF3, 0x34, 0x12] = .instr (.andMemReg 0x1234 0xf3) [] := by decide

theorem test_decode_andb :
    decode [0x61, 0x59] = .instr (.andbRbRb 5 9) [] ∧
    decode [0x69, 0x5A] = .instr (.andbRbInd 5 2) [] ∧
    decode [0x69, 0x5E] = .instr (.andbRbIndInc 5 2) [] ∧
    decode [0x69, 0x55] = .instr (.andbRbData3 5 0x5) [] ∧
    decode [0x67, 0xF3, 0xA7, 0x99] = .instr (.andbRegData8 0xf3 0xa7) [] ∧
    decode [0x63, 0xF3, 0x34, 0x12] = .instr (.andbRegMem 0xf3 0x1234) [] ∧
    decode [0x65, 0xF3, 0x34, 0x12] = .instr (.andbMemReg 0x1234 0xf3) [] := by decide

theorem test_decode_or :
    decode [0x70, 0x59] = .instr (.orRwRw 5 9) [] ∧
    decode [0x78, 0x5A] = .instr (.orRwInd 5 2) [] ∧
    decode [0x78, 0x5E] = .instr (.orRwIndInc 5 2) [] ∧
    decode [0x78, 0x55] = .instr (.orRwData3 5 0x5) [] ∧
    decode [0x76, 0xF3, 0x34, 0x12] = .instr (.orRegData16 0xf3 0x1234) [] ∧
    decode [0x72, 0xF3, 0x34, 0x12] = .instr (.orRegMem 0xf3 0x1234) [] ∧
    decode [0x74, 0xF3, 0x34, 0x12] = .instr (.orMemReg 0x1234 0xf3) [] := by decide

theorem test_decode_orb :
    decode [0x71, 0x59] = .instr (.orbRbRb 5 9) [] ∧
    decode [0x79, 0x5A] = .instr (.orbRbInd 5 2) [] ∧
    decode [0x79, 0x5E] = .instr (.orbRbIndInc 5 2) [] ∧
    decode [0x79, 0x55] = .instr (.orbRbData3 5 0x5) [] ∧
    decode [0x77, 0xF3, 0xA7, 0x99] = .instr (.orbRegData8 0xf3 0xa7) [] ∧
    decode [0x73, 0xF3, 0x34, 0x12] = .instr (.orbRegMem 0xf3 0x1234) [] ∧
    decode [0x75, 0xF3, 0x34, 0x12] = .instr (.orbMemReg 0x1234 0xf3) [] := by decide

theorem test_decode_rol :
    decode [0x0C, 0x59] = .instr (.rolRwRw 5 9) [] ∧
    decode [0x1C, 0xB5] = .instr (.rolRwData4 5 0xb) [] := by decide

theorem test_decode_ror :
    decode [0x2C, 0x59] = .instr (.rorRwRw 5 9) [] ∧
    decode [0x3C, 0xB5] = .instr (.rorRwData4 5 0xb) [] := by decide

theorem test_decode_shl :
    decode [0x4C, 0x59] = .instr (.shlRwRw 5 9) [] ∧
    decode [0x5C, 0xB5] = .instr (.shlRwData4 5 0xb) [] := by decide

theorem test_decode_shr :
    decode [0x6C, 0x59] = .instr (.shrRwRw 5 9) [] ∧
    decode [0x7C, 0xB5] = .instr (.shrRwData4 5 0xb) [] := by decide

theorem test_decode_ashr :
    decode [0xAC, 0x59] = .instr (.ashrRwRw 5 9) [] ∧
    decode [0xBC, 0xB5] = .instr (.ashrRwData4 5 0xb) [] := by decide

theorem test_decode_prior :
    decode [0x2B, 0x59] = .instr (.priorRwRw 5 9) [] := by decide

theorem test_decode_atomic :
    decode [0xD1, 0x20] = .instr (.atomic 2) [] := by decide

theorem test_decode_extr :
    decode [0xD1, 0xA0] = .instr (.extr 2) [] := by decide

theorem test_decode_exts :
    decode [0xDC, 0x29] = .instr (.extsRw 9 2) [] ∧
    decode [0xD7, 0x20, 0x12, 0x00] = .instr (.extsSeg 0x12 2) [] := by decide

theorem test_decode_extp :
    decode [0xDC, 0x69] = .instr (.extpRw 9 2) [] ∧
    decode [0xD7, 0x60, 0x5A, 0x02] = .instr (.extpPag 0x25a 2) [] := by decide

theorem test_decode_extsr :
    decode [0xDC, 0xA9] = .instr (.extsrRw 9 2) [] ∧
    decode [0xD7, 0xA0, 0x12, 0x00] = .instr (.extsrSeg 0x12 2) [] := by decide

theorem test_decode_extpr :
    decode [0xDC, 0xE9] = .instr (.extprRw 9 2) [] ∧
    decode [0xD7, 0xE0, 0x5A, 0x02] = .instr (.extprPag 0x25a 2) [] := by decide

theorem test_decode_bfldl :
    decode [0x0A, 0x88, 0x1F, 0xA7] = .instr (.bfldl 0x88 0x1f 0xa7) [] := by decide

theorem test_decode_bfldh :
    decode [0x1A, 0x88, 0xA7, 0x1F] = .instr (.bfldh 0x88 0x1f 0xa7) [] := by decide

theorem test_decode_bcmp :
    decode [0x2A, 0x88, 0x21, 0x7C] = .instr (.bcmp ⟨0x21, 12⟩ ⟨0x88, 7⟩) [] := by decide

theorem test_decode_bmovn :
    decode [0x3A, 0x88, 0x21, 0x7C] = .instr (.bmovn ⟨0x21, 12⟩ ⟨0x88, 7⟩) [] := by decide

theorem test_decode_bmov :
    decode [0x4A, 0x88, 0x21, 0x7C] = .instr (.bmov ⟨0x21, 12⟩ ⟨0x88, 7⟩) [] := by decide

theorem test_decode_bor :
    decode [0x5A, 0x88, 0x21, 0x7C] = .instr (.bor ⟨0x21, 12⟩ ⟨0x88, 7⟩) [] := by decide

theorem test_decode_band :
    decode [0x6A, 0x88, 0x21, 0x7C] = .instr (.band ⟨0x21, 12⟩ ⟨0x88, 7⟩) [] := by decide

theorem test_decode_bxor :
    decode [0x7A, 0x88, 0x21, 0x7C] = .instr (.bxor ⟨0x21, 12⟩ ⟨0x88, 7⟩) [] := by decide

theorem test_decode_jb :
    decode [0x8A, 0x88, 0xFE, 0x70] = .instr (.jb ⟨0x88, 7⟩ 0xfe) [] := by decide

theorem test_decode_jnb :
    decode [0x9A, 0x88, 0xFE, 0x70] = .instr (.jnb ⟨0x88, 7⟩ 0xfe) [] := by decide

theorem test_decode_jbc :
    decode [0xAA, 0x88, 0xFE, 0x70] = .instr (.jbc ⟨0x88, 7⟩ 0xfe) [] := by decide

theorem test_decode_jnbs :
    decode [0xBA, 0x88, 0xFE, 0x70] = .instr (.jnbs ⟨0x88, 7⟩ 0xfe) [] := by decide

theorem test_decode_bclr :
    decode [0x7E, 0x88] = .instr (.bclr ⟨0x88, 7⟩) [] := by decide

theorem test_decode_bset :
    decode [0x7F, 0x88] = .instr (.bset ⟨0x88, 7⟩) [] := by decide

theorem test_decode_calla :
    decode [0xCA, 0xD0, 0x34, 0x12] = .instr (.calla .sge 0x1234) [] := by decide

theorem test_decode_jmpa :
    decode [0xEA, 0xD0, 0x34, 0x12] = .instr (.jmpa .sge 0x1234) [] := by decide

theorem test_decode_calli :
    decode [0xAB, 0xD5] = .instr (.calli .sge 5) [] := by decide

theorem test_decode_jmpi :
    decode [0x9C, 0xD5] = .instr (.jmpi .sge 5) [] := by decide

theorem test_decode_callr :
    decode [0xBB, 0xFE] = .instr (.callr 0xfe) [] := by decide

theorem test_decode_jmpr :
    decode [0xDD, 0xFE] = .instr (.jmpr .sge 0xfe) [] := by decide

theorem test_decode_calls :
    decode [0xDA, 0x12, 0x34, 0x12] = .instr (.calls 0x12 0x1234) [] := by decide

theorem test_decode_jmps :
    decode [0xFA, 0x12, 0x34, 0x12] = .instr (.jmps 0x12 0x1234) [] := by decide

theorem test_decode_pcall :
    decode [0xE2, 0xF3, 0x34, 0x12] = .instr (.pcall 0xf3 0x1234) [] := by decide

theorem test_decode_ret :
    decode [0xCB, 0x00] = .instr .ret [] := by decide

theorem test_decode_rets :
    decode [0xDB, 0x00] = .instr .rets [] := by decide

theorem test_decode_reti :
    decode [0xFB, 0x88] = .instr .reti [] := by decide

theorem test_decode_retp :
    decode [0xEB, 0xF3] = .instr (.retp 0xf3) [] := by decide

theorem test_decode_trap :
    decode [0x9B, 0x82] = .instr (.trap 0x41) [] := by decide

theorem test_decode_cmpi1 :
    decode [0x80, 0xB5] = .instr (.cmpi1RwData4 5 0xb) [] ∧
    decode [0x86, 0xF5, 0x34, 0x12] = .instr (.cmpi1RwData16 5 0x1234) [] ∧
    decode [0x82, 0xF5, 0x34, 0x12] = .instr (.cmpi1RwMem 5 0x1234) [] := by decide

theorem test_decode_cmpi2 :
    decode [0x90, 0xB5] = .instr (.cmpi2RwData4 5 0xb) [] ∧
    decode [0x96, 0xF5, 0x34, 0x12] = .instr (.cmpi2RwData16 5 0x1234) [] ∧
    decode [0x92, 0xF5, 0x34, 0x12] = .instr (.cmpi2RwMem 5 0x1234) [] := by decide

theorem test_decode_cmpd1 :
    decode [0xA0, 0xB5] = .instr (.cmpd1RwData4 5 0xb) [] ∧
    decode [0xA6, 0xF5, 0x34, 0x12] = .instr (.cmpd1RwData16 5 0x1234) [] ∧
    decode [0xA2, 0xF5, 0x34, 0x12] = .instr (.cmpd1RwMem 5 0x1234) [] := by decide

theorem test_decode_cmpd2 :
    decode [0xB0, 0xB5] = .instr (.cmpd2RwData4 5 0xb) [] ∧
    decode [0xB6, 0xF5, 0x34, 0x12] = .instr (.cmpd2RwData16 5 0x1234) [] ∧
    decode [0xB2, 0xF5, 0x34, 0x12] = .instr (.cmpd2RwMem 5 0x1234) [] := by decide

theorem test_decode_neg :
    decode [0x81, 0x50] = .instr (.neg 5) [] := by decide

theorem test_decode_cpl :
    decode [0x91, 0x50] = .instr (.cpl 5) [] := by decide

theorem test_decode_negb :
    decode [0xA1, 0x50] = .instr (.negb 5) [] := by decide

theorem test_decode_cplb :
    decode [0xB1, 0x50] = .instr (.cplb 5) [] := by decide

theorem test_decode_diswdt :
    decode [0xA5, 0x5A, 0xA5, 0xA5] = .instr .diswdt [] := by decide

theorem test_decode_einit :
    decode [0xB5, 0x4A, 0xB5, 0xB5] = .instr .einit [] := by decide

theorem test_decode_idle :
    decode [0x87, 0x78, 0x87, 0x87] = .instr .idle [] := by decide

theorem test_decode_pwrdn :
    decode [0x97, 0x68, 0x97, 0x97] = .instr .pwrdn [] := by decide

theorem test_decode_srst :
    decode [0xB7, 0x48, 0xB7, 0xB7] = .instr .srst [] := by decide

theorem test_decode_srvwdt :
    decode [0xA7, 0x58, 0xA7, 0xA7] = .instr .srvwdt [] := by decide

theorem test_decode_nop :
    decode [0xCC, 0x00] = .instr .nop [] := by decide

theorem test_decode_mul :
    decode [0x0B, 0x59] = .instr (.mulRwRw 5 9) [] := by decide

theorem test_decode_mulu :
    decode [0x1B, 0x59] = .instr (.muluRwRw 5 9) [] := by decide

theorem test_decode_div :
    decode [0x4B, 0x55] = .instr (.div 5) [] := by decide

theorem test_decode_divu :
    decode [0x5B, 0x55] = .instr (.divu 5) [] := by decide

theorem test_decode_divl :
    decode [0x6B, 0x55] = .instr (.divl 5) [] := by decide

theorem test_decode_divlu :
    decode [0x7B, 0x55] = .instr (.divlu 5) [] := by decide

theorem test_decode_mov :
    decode [0xF0, 0x59] = .instr (.movRwRw 5 9) [] ∧
    decode [0xE0, 0xB5] = .instr (.movRwData4 5 0xb) [] ∧
    decode [0xE6, 0xF3, 0x34, 0x12] = .instr (.movRegData16 0xf3 0x1234) [] ∧
    decode [0xA8, 0x59] = .instr (.movRwInd 5 9) [] ∧
    decode [0x98, 0x59] = .instr (.movRwIndInc 5 9) [] ∧
    decode [0xB8, 0x59] = .instr (.movIndRw 9 5) [] ∧
    decode [0x88, 0x59] = .instr (.movIndDecRw 9 5) [] ∧
    decode [0xC8, 0x59] = .instr (.movIndInd 5 9) [] ∧
    decode [0xD8, 0x59] = .instr (.movIndIncInd 5 9) [] ∧
    decode [0xE8, 0x59] = .instr (.movIndIndInc 5 9) [] ∧
    decode [0xD4, 0x59, 0x34, 0x12] = .instr (.movRwIndDisp 5 9 0x1234) [] ∧
    decode [0xC4, 0x59, 0x34, 0x12] = .instr (.movIndDispRw 9 0x1234 5) [] ∧
    decode [0x84, 0x05, 0x34, 0x12] = .instr (.movIndMem 5 0x1234) [] ∧
    decode [0x94, 0x05, 0x34, 0x12] = .instr (.movMemInd 0x1234 5) [] ∧
    decode [0xF2, 0xF3, 0x34, 0x12] = .instr (.movRegMem 0xf3 0x1234) [] ∧
    decode [0xF6, 0xF3, 0x34, 0x12] = .instr (.movMemReg 0x1234 0xf3) [] := by decide

theorem test_decode_movb :
    decode [0xF1, 0x59] = .instr (.movbRbRb 5 9) [] ∧
    decode [0xE1, 0xB5] = .instr (.movbRbData4 5 0xb) [] ∧
    decode [0xE7, 0xF3, 0xA7, 0x99] = .instr (.movbRegData8 0xf3 0xa7) [] ∧
    decode [0xA9, 0x59] = .instr (.movbRbInd 5 9) [] ∧
    decode [0x99, 0x59] = .instr (.movbRbIndInc 5 9) [] ∧
    decode [0xB9, 0x59] = .instr (.movbIndRb 9 5) [] ∧
    decode [0x89, 0x59] = .instr (.movbIndDecRb 9 5) [] ∧
    decode [0xC9, 0x59] = .instr (.movbIndInd 5 9) [] ∧
    decode [0xD9, 0x59] = .instr (.movbIndIncInd 5 9) [] ∧
    decode [0xE9, 0x59] = .instr (.movbIndIndInc 5 9) [] ∧
    decode [0xF4, 0x59, 0x34, 0x12] = .instr (.movbRbIndDisp 5 9 0x1234) [] ∧
    decode [0xE4, 0x59, 0x34, 0x12] = .instr (.movbIndDispRb 9 0x1234 5) [] ∧
    decode [0xA4, 0x05, 0x34, 0x12] = .instr (.movbIndMem 5 0x1234) [] ∧
    decode [0xB4, 0x05, 0x34, 0x12] = .instr (.movbMemInd 0x1234 5) [] ∧
    decode [0xF3, 0xF3, 0x34, 0x12] = .instr (.movbRegMem 0xf3 0x1234) [] ∧
    decode [0xF7, 0xF3, 0x34, 0x12] = .instr (.movbMemReg 0x1234 0xf3) [] := by decide

theorem test_decode_movbs :
    decode [0xD0, 0x95] = .instr (.movbsRwRb 5 9) [] ∧
    decode [0xD2, 0xF3, 0x34, 0x12] = .instr (.movbsRegMem 0xf3 0x1234) [] ∧
    decode [0xD5, 0xF3, 0x34, 0x12] = .instr (.movbsMemReg 0x1234 0xf3) [] := by decide

theorem test_decode_movbsz :
    decode [0xC0, 0x95] = .instr (.movbszRwRb 5 9) [] ∧
    decode [0xC2, 0xF3, 0x34, 0x12] = .instr (.movbszRegMem 0xf3 0x1234) [] ∧
    decode [0xC5, 0xF3, 0x34, 0x12] = .instr (.movbszMemReg 0x1234 0xf3) [] := by decide

theorem test_decode_pop :
    decode [0xFC, 0xF3] = .instr (.pop 0xf3) [] := by decide

theorem test_decode_push :
    decode [0xEC, 0xF3] = .instr (.push 0xf3) [] := by decide

theorem test_decode_scxt :
    decode [0xC6, 0xF3, 0x34, 0x12] = .instr (.scxtRegData16 0xf3 0x1234) [] ∧
    decode [0xD6, 0xF3, 0x34, 0x12] = .instr (.scxtRegMem 0xf3 0x1234) [] := by decide

/-! ## One step of an instruction: the vectors of 95_test_vectors.md, tables V1 to V9 -/

/-- V1: ADD R1, R2. -/
theorem test_add :
    runs [0x00, 0x12] (start 0x0000 [(0xFC02, 0x8000), (0xFC04, 0x8000)])
      (fun t => decide (t.mem.getWord 0xFC02 = 0x0000 ∧ t.ip = 0x1002 ∧
        t.flags = ⟨true, true, true, true, false⟩)) = true := by
  decide

/-- V1: ADD MDL, #1 (reg 0x07). -/
theorem test_add_2 :
    runs [0x06, 0x07, 0x01, 0x00] ({ start 0x0000 [] with mdl := 0x00FF })
      (fun t => decide (t.mdl = 0x0100 ∧ t.ip = 0x1004 ∧
        t.flags = ⟨false, false, false, false, false⟩)) = true := by
  decide

/-- V1: ADDB RH1, [R2+]. -/
theorem test_addb :
    runs [0x09, 0x3E] (start 0x0000 [(0x2000, 0x7000), (0xFC02, 0x1000), (0xFC04, 0x2001)])
      (fun t => decide (t.mem.getWord 0xFC02 = 0x8000 ∧ t.mem.getWord 0xFC04 = 0x2002 ∧ t.ip = 0x1002 ∧
        t.flags = ⟨false, false, true, false, true⟩)) = true := by
  decide

/-- V1: ADDB RL1, #0x80 (b3 = 0x99 ignored). -/
theorem test_addb_2 :
    runs [0x07, 0xF2, 0x80, 0x99] (start 0x0000 [(0xFC02, 0x0000)])
      (fun t => decide (t.mem.getWord 0xFC02 = 0x0080 ∧ t.ip = 0x1004 ∧
        t.flags = ⟨true, false, false, false, true⟩)) = true := by
  decide

/-- V1: ADDC R1, R2. -/
theorem test_addc :
    runs [0x10, 0x12] (start 0x000A [(0xFC02, 0xFFFF), (0xFC04, 0x0000)])
      (fun t => decide (t.mem.getWord 0xFC02 = 0x0000 ∧ t.ip = 0x1002 ∧
        t.flags = ⟨false, true, false, true, false⟩)) = true := by
  decide

/-- V1: ADDCB RL1, RL2. -/
theorem test_addcb :
    runs [0x11, 0x24] (start 0x000A [(0xFC02, 0x007F), (0xFC04, 0x0000)])
      (fun t => decide (t.mem.getWord 0xFC02 = 0x0080 ∧ t.ip = 0x1002 ∧
        t.flags = ⟨false, false, true, false, true⟩)) = true := by
  decide

/-- V1: AND R1, R2. -/
theorem test_and :
    runs [0x60, 0x12] (start 0x0000 [(0xFC02, 0xF0F0), (0xFC04, 0x8000)])
      (fun t => decide (t.mem.getWord 0xFC02 = 0x8000 ∧ t.ip = 0x1002 ∧
        t.flags = ⟨true, false, false, false, true⟩)) = true := by
  decide

/-- V1: AND PSW, #0xF800 (reg 0x88): explicit write wins. -/
theorem test_and_2 :
    runs [0x66, 0x88, 0x00, 0xF8] (start 0x0800 [(0xFC02, 0x00FF)])
      (fun t => decide (t.ip = 0x1004 ∧ t.flags = ⟨false, false, false, false, false⟩)) = true := by
  decide

/-- V1: ANDB RL1, #0x0F. -/
theorem test_andb :
    runs [0x67, 0xF2, 0x0F, 0x00] (start 0x0000 [(0xFC02, 0x00A5)])
      (fun t => decide (t.mem.getWord 0xFC02 = 0x0005 ∧ t.ip = 0x1004 ∧
        t.flags = ⟨false, false, false, false, false⟩)) = true := by
  decide

/-- V1: CMP R1, R2. -/
theorem test_cmp :
    runs [0x40, 0x12] (start 0x0000 [(0xFC02, 0x7FFF), (0xFC04, 0x8000)])
      (fun t => decide (t.ip = 0x1002 ∧ t.flags = ⟨true, false, true, true, true⟩)) = true := by
  decide

/-- V1: CMP R1, #0x1234. -/
theorem test_cmp_2 :
    runs [0x46, 0xF1, 0x34, 0x12] (start 0x0000 [(0xFC02, 0x1234)])
      (fun t => decide (t.ip = 0x1004 ∧ t.flags = ⟨false, true, false, false, false⟩)) = true := by
  decide

/-- V1: CMPB RL1, RL2. -/
theorem test_cmpb :
    runs [0x41, 0x24] (start 0x0000 [(0xFC02, 0x0010), (0xFC04, 0x0020)])
      (fun t => decide (t.ip = 0x1002 ∧ t.flags = ⟨false, false, false, true, true⟩)) = true := by
  decide

/-- V1: CMPB RL1, #0x80. -/
theorem test_cmpb_2 :
    runs [0x47, 0xF2, 0x80, 0x00] (start 0x0000 [(0xFC02, 0x0080)])
      (fun t => decide (t.ip = 0x1004 ∧ t.flags = ⟨true, true, false, false, false⟩)) = true := by
  decide

/-- V1: CMPD1 R1, #0. -/
theorem test_cmpd1 :
    runs [0xA0, 0x01] (start 0x0000 [(0xFC02, 0x0000)])
      (fun t => decide (t.mem.getWord 0xFC02 = 0xFFFF ∧ t.ip = 0x1002 ∧
        t.flags = ⟨false, true, false, false, false⟩)) = true := by
  decide

/-- V1: CMPD2 R1, #2. -/
theorem test_cmpd2 :
    runs [0xB0, 0x21] (start 0x0000 [(0xFC02, 0x0002)])
      (fun t => decide (t.mem.getWord 0xFC02 = 0x0000 ∧ t.ip = 0x1002 ∧
        t.flags = ⟨false, true, false, false, false⟩)) = true := by
  decide

/-- V1: CMPD2 R1, #0. -/
theorem test_cmpd2_2 :
    runs [0xB0, 0x01] (start 0x0000 [(0xFC02, 0x0001)])
      (fun t => decide (t.mem.getWord 0xFC02 = 0xFFFF ∧ t.ip = 0x1002 ∧
        t.flags = ⟨false, false, false, false, false⟩)) = true := by
  decide

/-- V1: CMPI1 R1, #0x000A. -/
theorem test_cmpi1 :
    runs [0x86, 0xF1, 0x0A, 0x00] (start 0x0000 [(0xFC02, 0x0009)])
      (fun t => decide (t.mem.getWord 0xFC02 = 0x000A ∧ t.ip = 0x1004 ∧
        t.flags = ⟨false, false, false, true, true⟩)) = true := by
  decide

/-- V1: CMPI1 R1, #0. -/
theorem test_cmpi1_2 :
    runs [0x80, 0x01] (start 0x0000 [(0xFC02, 0xFFFF)])
      (fun t => decide (t.mem.getWord 0xFC02 = 0x0000 ∧ t.ip = 0x1002 ∧
        t.flags = ⟨false, false, false, false, true⟩)) = true := by
  decide

/-- V1: CMPI2 R1, #0xFFFE. -/
theorem test_cmpi2 :
    runs [0x96, 0xF1, 0xFE, 0xFF] (start 0x0000 [(0xFC02, 0xFFFE)])
      (fun t => decide (t.mem.getWord 0xFC02 = 0x0000 ∧ t.ip = 0x1004 ∧
        t.flags = ⟨false, true, false, false, false⟩)) = true := by
  decide

/-- V1: CMPI2 R1, 0x3000. -/
theorem test_cmpi2_2 :
    runs [0x92, 0xF1, 0x00, 0x30] (start 0x0000 [(0x3000, 0x0004), (0xFC02, 0x0004)])
      (fun t => decide (t.mem.getWord 0xFC02 = 0x0006 ∧ t.ip = 0x1004 ∧
        t.flags = ⟨false, true, false, false, false⟩)) = true := by
  decide

/-- V1: CPL R1. -/
theorem test_cpl :
    runs [0x91, 0x10] (start 0x0000 [(0xFC02, 0x8000)])
      (fun t => decide (t.mem.getWord 0xFC02 = 0x7FFF ∧ t.ip = 0x1002 ∧
        t.flags = ⟨true, false, false, false, false⟩)) = true := by
  decide

/-- V1: CPLB RL1. -/
theorem test_cplb :
    runs [0xB1, 0x20] (start 0x0000 [(0xFC02, 0x00FF)])
      (fun t => decide (t.mem.getWord 0xFC02 = 0x0000 ∧ t.ip = 0x1002 ∧
        t.flags = ⟨false, true, false, false, false⟩)) = true := by
  decide

/-- V1: NEG R1. -/
theorem test_neg :
    runs [0x81, 0x10] (start 0x0000 [(0xFC02, 0x8000)])
      (fun t => decide (t.ip = 0x1002 ∧ t.flags = ⟨true, false, true, true, true⟩)) = true := by
  decide

/-- V1: NEGB RL1. -/
theorem test_negb :
    runs [0xA1, 0x20] (start 0x0000 [(0xFC02, 0x0080)])
      (fun t => decide (t.ip = 0x1002 ∧ t.flags = ⟨true, false, true, true, true⟩)) = true := by
  decide

/-- V1: OR R1, R2. -/
theorem test_or :
    runs [0x70, 0x12] (start 0x0000 [(0xFC02, 0x00F0), (0xFC04, 0x0F00)])
      (fun t => decide (t.mem.getWord 0xFC02 = 0x0FF0 ∧ t.ip = 0x1002 ∧
        t.flags = ⟨false, false, false, false, false⟩)) = true := by
  decide

/-- V1: ORB RL1, #7. -/
theorem test_orb :
    runs [0x79, 0x27] (start 0x0000 [(0xFC02, 0x0080)])
      (fun t => decide (t.mem.getWord 0xFC02 = 0x0087 ∧ t.ip = 0x1002 ∧
        t.flags = ⟨false, false, false, false, true⟩)) = true := by
  decide

/-- V1: SUB R1, R2. -/
theorem test_sub :
    runs [0x20, 0x12] (start 0x0000 [(0xFC02, 0x0000), (0xFC04, 0x8000)])
      (fun t => decide (t.mem.getWord 0xFC02 = 0x8000 ∧ t.ip = 0x1002 ∧
        t.flags = ⟨true, false, true, true, true⟩)) = true := by
  decide

/-- V1: SUB R1, R1. -/
theorem test_sub_2 :
    runs [0x20, 0x11] (start 0x0000 [(0xFC02, 0x1234)])
      (fun t => decide (t.mem.getWord 0xFC02 = 0x0000 ∧ t.ip = 0x1002 ∧
        t.flags = ⟨false, true, false, false, false⟩)) = true := by
  decide

/-- V1: SUBB RL1, RL2. -/
theorem test_subb :
    runs [0x21, 0x24] (start 0x0000 [(0xFC02, 0x0080), (0xFC04, 0x0080)])
      (fun t => decide (t.mem.getWord 0xFC02 = 0x0000 ∧ t.ip = 0x1002 ∧
        t.flags = ⟨true, true, false, false, false⟩)) = true := by
  decide

/-- V1: SUBC R1, R2. -/
theorem test_subc :
    runs [0x30, 0x12] (start 0x000A [(0xFC02, 0x0000), (0xFC04, 0x0000)])
      (fun t => decide (t.mem.getWord 0xFC02 = 0xFFFF ∧ t.ip = 0x1002 ∧
        t.flags = ⟨false, false, false, true, true⟩)) = true := by
  decide

/-- V1: SUBCB RL1, RL2. -/
theorem test_subcb :
    runs [0x31, 0x24] (start 0x0002 [(0xFC02, 0x0000), (0xFC04, 0x00FF)])
      (fun t => decide (t.ip = 0x1002 ∧ t.flags = ⟨false, false, false, true, false⟩)) = true := by
  decide

/-- V1: XOR R1, R1. -/
theorem test_xor :
    runs [0x50, 0x11] (start 0x0000 [(0xFC02, 0x1234)])
      (fun t => decide (t.mem.getWord 0xFC02 = 0x0000 ∧ t.ip = 0x1002 ∧
        t.flags = ⟨false, true, false, false, false⟩)) = true := by
  decide

/-- V1: XORB RL1, #0x80. -/
theorem test_xorb :
    runs [0x57, 0xF2, 0x80, 0x00] (start 0x0000 [(0xFC02, 0x0001)])
      (fun t => decide (t.mem.getWord 0xFC02 = 0x0081 ∧ t.ip = 0x1004 ∧
        t.flags = ⟨true, false, false, false, true⟩)) = true := by
  decide

/-- V2: ASHR R1, #2. -/
theorem test_ashr :
    runs [0xBC, 0x21] (start 0x0000 [(0xFC02, 0x8003)])
      (fun t => decide (t.mem.getWord 0xFC02 = 0xE000 ∧ t.ip = 0x1002 ∧
        t.flags = ⟨false, false, true, true, true⟩)) = true := by
  decide

/-- V2: ASHR R1, R2 (count = 4). -/
theorem test_ashr_2 :
    runs [0xAC, 0x12] (start 0x0000 [(0xFC02, 0xFF00), (0xFC04, 0xFFF4)])
      (fun t => decide (t.mem.getWord 0xFC02 = 0xFFF0 ∧ t.ip = 0x1002 ∧
        t.flags = ⟨false, false, false, false, true⟩)) = true := by
  decide

/-- V2: PRIOR R1, R2. -/
theorem test_prior :
    runs [0x2B, 0x12] (start 0x0000 [(0xFC02, 0x5555), (0xFC04, 0x0000)])
      (fun t => decide (t.mem.getWord 0xFC02 = 0x0000 ∧ t.ip = 0x1002 ∧
        t.flags = ⟨false, true, false, false, false⟩)) = true := by
  decide

/-- V2: PRIOR R1, R1. -/
theorem test_prior_2 :
    runs [0x2B, 0x11] (start 0x0000 [(0xFC02, 0x0010)])
      (fun t => decide (t.mem.getWord 0xFC02 = 0x000B ∧ t.ip = 0x1002 ∧
        t.flags = ⟨false, false, false, false, false⟩)) = true := by
  decide

/-- V2: ROL R1, #4. -/
theorem test_rol :
    runs [0x1C, 0x41] (start 0x0000 [(0xFC02, 0x1234)])
      (fun t => decide (t.mem.getWord 0xFC02 = 0x2341 ∧ t.ip = 0x1002 ∧
        t.flags = ⟨false, false, false, true, false⟩)) = true := by
  decide

/-- V2: ROL R1, R2 (count 15). -/
theorem test_rol_2 :
    runs [0x0C, 0x12] (start 0x0000 [(0xFC02, 0x0001), (0xFC04, 0x000F)])
      (fun t => decide (t.mem.getWord 0xFC02 = 0x8000 ∧ t.ip = 0x1002 ∧
        t.flags = ⟨false, false, false, false, true⟩)) = true := by
  decide

/-- V2: ROR R1, #2. -/
theorem test_ror :
    runs [0x3C, 0x21] (start 0x0000 [(0xFC02, 0x0003)])
      (fun t => decide (t.mem.getWord 0xFC02 = 0xC000 ∧ t.ip = 0x1002 ∧
        t.flags = ⟨false, false, true, true, true⟩)) = true := by
  decide

/-- V2: ROR R1, #4. -/
theorem test_ror_2 :
    runs [0x3C, 0x41] (start 0x0000 [(0xFC02, 0x8001)])
      (fun t => decide (t.mem.getWord 0xFC02 = 0x1800 ∧ t.ip = 0x1002 ∧
        t.flags = ⟨false, false, true, false, false⟩)) = true := by
  decide

/-- V2: SHL R1, #1. -/
theorem test_shl :
    runs [0x5C, 0x11] (start 0x0000 [(0xFC02, 0x8000)])
      (fun t => decide (t.mem.getWord 0xFC02 = 0x0000 ∧ t.ip = 0x1002 ∧
        t.flags = ⟨false, true, false, true, false⟩)) = true := by
  decide

/-- V2: SHL R1, R2 (count 1). -/
theorem test_shl_2 :
    runs [0x4C, 0x12] (start 0x0000 [(0xFC02, 0x0001), (0xFC04, 0x00F1)])
      (fun t => decide (t.mem.getWord 0xFC02 = 0x0002 ∧ t.ip = 0x1002 ∧
        t.flags = ⟨false, false, false, false, false⟩)) = true := by
  decide

/-- V2: SHR R1, #2. -/
theorem test_shr :
    runs [0x7C, 0x21] (start 0x0000 [(0xFC02, 0x0007)])
      (fun t => decide (t.mem.getWord 0xFC02 = 0x0001 ∧ t.ip = 0x1002 ∧
        t.flags = ⟨false, false, true, true, false⟩)) = true := by
  decide

/-- V2: SHR R1, #15. -/
theorem test_shr_2 :
    runs [0x7C, 0xF1] (start 0x0000 [(0xFC02, 0x4000)])
      (fun t => decide (t.mem.getWord 0xFC02 = 0x0000 ∧ t.ip = 0x1002 ∧
        t.flags = ⟨false, true, false, true, false⟩)) = true := by
  decide

/-- V3: BAND R1.0, R2.4. -/
theorem test_band :
    runs [0x6A, 0xF2, 0xF1, 0x40] (start 0x0000 [(0xFC02, 0x0001), (0xFC04, 0x0010)])
      (fun t => decide (t.ip = 0x1004 ∧ t.mem.getWord 0xFC02 = 0x0001 ∧
        t.flags = ⟨false, false, true, true, false⟩)) = true := by
  decide

/-- V3: BCLR R1.3. -/
theorem test_bclr :
    runs [0x3E, 0xF1] (start 0x0000 [(0xFC02, 0x000F)])
      (fun t => decide (t.mem.getWord 0xFC02 = 0x0007 ∧ t.ip = 0x1002 ∧
        t.flags = ⟨false, false, false, false, true⟩)) = true := by
  decide

/-- V3: BCLR bitoff 0x00 bit 15 (RAM word 0x00FD00). -/
theorem test_bclr_2 :
    runs [0xFE, 0x00] (start 0x0000 [(0xFD00, 0x8000)])
      (fun t => decide (t.mem.getWord 0x0000FD00 = 0x0000 ∧ t.ip = 0x1002 ∧
        t.flags = ⟨false, false, false, false, true⟩)) = true := by
  decide

/-- V3: BCMP R1.0, R2.4. -/
theorem test_bcmp :
    runs [0x2A, 0xF2, 0xF1, 0x40] (start 0x0000 [(0xFC02, 0x0001), (0xFC04, 0x0000)])
      (fun t => decide (t.ip = 0x1004 ∧ t.flags = ⟨false, false, true, false, true⟩)) = true := by
  decide

/-- V3: BFLDH R1, #0xF0, #0x80. -/
theorem test_bfldh :
    runs [0x1A, 0xF1, 0x80, 0xF0] (start 0x0000 [(0xFC02, 0x12FA)])
      (fun t => decide (t.mem.getWord 0xFC02 = 0x82FA ∧ t.ip = 0x1004 ∧
        t.flags = ⟨false, false, false, false, true⟩)) = true := by
  decide

/-- V3: BFLDH R1, #0x00, #0x01 (data bit outside mask is ORed in). -/
theorem test_bfldh_2 :
    runs [0x1A, 0xF1, 0x01, 0x00] (start 0x0000 [(0xFC02, 0x12FA)])
      (fun t => decide (t.mem.getWord 0xFC02 = 0x13FA ∧ t.ip = 0x1004 ∧
        t.flags = ⟨false, false, false, false, false⟩)) = true := by
  decide

/-- V3: BFLDL R1, #0x0F, #0x00. -/
theorem test_bfldl :
    runs [0x0A, 0xF1, 0x0F, 0x00] (start 0x0000 [(0xFC02, 0x000F)])
      (fun t => decide (t.mem.getWord 0xFC02 = 0x0000 ∧ t.ip = 0x1004 ∧
        t.flags = ⟨false, true, false, false, false⟩)) = true := by
  decide

/-- V3: BFLDL R1, #0xFF, #0x00 (N from bit 15 of the whole word). -/
theorem test_bfldl_2 :
    runs [0x0A, 0xF1, 0xFF, 0x00] (start 0x0000 [(0xFC02, 0x8000)])
      (fun t => decide (t.ip = 0x1004 ∧ t.mem.getWord 0xFC02 = 0x8000 ∧
        t.flags = ⟨false, false, false, false, true⟩)) = true := by
  decide

/-- V3: BMOV R1.15, R2.0. -/
theorem test_bmov :
    runs [0x4A, 0xF2, 0xF1, 0x0F] (start 0x0000 [(0xFC02, 0x0000), (0xFC04, 0x0001)])
      (fun t => decide (t.mem.getWord 0xFC02 = 0x8000 ∧ t.ip = 0x1004 ∧
        t.flags = ⟨false, false, false, false, true⟩)) = true := by
  decide

/-- V3: BMOVN R1.15, R2.0. -/
theorem test_bmovn :
    runs [0x3A, 0xF2, 0xF1, 0x0F] (start 0x0016 [(0xFC02, 0xFFFF), (0xFC04, 0x0001)])
      (fun t => decide (t.mem.getWord 0xFC02 = 0x7FFF ∧ t.ip = 0x1004 ∧
        t.flags = ⟨false, false, false, false, true⟩)) = true := by
  decide

/-- V3: BMOVN R1.0, R1.0 (toggle). -/
theorem test_bmovn_2 :
    runs [0x3A, 0xF1, 0xF1, 0x00] (start 0x0000 [(0xFC02, 0x0001)])
      (fun t => decide (t.mem.getWord 0xFC02 = 0x0000 ∧ t.ip = 0x1004 ∧
        t.flags = ⟨false, false, false, false, true⟩)) = true := by
  decide

/-- V3: BOR R1.0, R2.4. -/
theorem test_bor :
    runs [0x5A, 0xF2, 0xF1, 0x40] (start 0x0000 [(0xFC02, 0x0000), (0xFC04, 0x0010)])
      (fun t => decide (t.mem.getWord 0xFC02 = 0x0001 ∧ t.ip = 0x1004 ∧
        t.flags = ⟨false, false, true, false, true⟩)) = true := by
  decide

/-- V3: BSET PSW.11 (bitoff 0x88): flag update lost. -/
theorem test_bset :
    runs [0xBF, 0x88] (start 0x0013 [])
      (fun t => decide (t.ip = 0x1002 ∧ t.psw = 0x0813)) = true := by
  decide

/-- V3: BSET R1.3. -/
theorem test_bset_2 :
    runs [0x3F, 0xF1] (start 0x0000 [(0xFC02, 0x0008)])
      (fun t => decide (t.ip = 0x1002 ∧ t.mem.getWord 0xFC02 = 0x0008 ∧
        t.flags = ⟨false, false, false, false, true⟩)) = true := by
  decide

/-- V3: BXOR R1.0, R2.4. -/
theorem test_bxor :
    runs [0x7A, 0xF2, 0xF1, 0x40] (start 0x0000 [(0xFC02, 0x0001), (0xFC04, 0x0010)])
      (fun t => decide (t.mem.getWord 0xFC02 = 0x0000 ∧ t.ip = 0x1004 ∧
        t.flags = ⟨false, false, true, true, false⟩)) = true := by
  decide

/-- V3: BXOR R1.0, R1.0 (same bit). -/
theorem test_bxor_2 :
    runs [0x7A, 0xF1, 0xF1, 0x00] (start 0x0000 [(0xFC02, 0x0001)])
      (fun t => decide (t.mem.getWord 0xFC02 = 0x0000 ∧ t.ip = 0x1004 ∧
        t.flags = ⟨false, false, true, true, false⟩)) = true := by
  decide

/-- V4: CALLA cc_Z, 0x2000. -/
theorem test_calla :
    runs [0xCA, 0x20, 0x00, 0x20] (start 0x0008 [])
      (fun t => decide (t.mem.getWord 0x0000FBFE = 0x1004 ∧ t.sp = 0xFBFE ∧ t.ip = 0x2000 ∧
        t.flags = ⟨false, true, false, false, false⟩)) = true := by
  decide

/-- V4: CALLA cc_UC, 0x2000. -/
theorem test_calla_2 :
    runs [0xCA, 0x00, 0x00, 0x20] (start 0x0000 [])
      (fun t => decide (t.mem.getWord 0x0000FBFE = 0x1004 ∧ t.sp = 0xFBFE ∧ t.ip = 0x2000 ∧
        t.flags = ⟨false, false, false, false, false⟩)) = true := by
  decide

/-- V4: CALLI cc_UC, [R4]. -/
theorem test_calli :
    runs [0xAB, 0x04] (start 0x0000 [(0xFC08, 0x3000)])
      (fun t => decide (t.mem.getWord 0x0000FBFE = 0x1002 ∧ t.sp = 0xFBFE ∧ t.ip = 0x3000 ∧
        t.flags = ⟨false, false, false, false, false⟩)) = true := by
  decide

/-- V4: CALLI cc_NC, [R4]. -/
theorem test_calli_2 :
    runs [0xAB, 0x94] (start 0x0002 [(0xFC08, 0x3000)])
      (fun t => decide (t.ip = 0x1002 ∧ t.flags = ⟨false, false, false, true, false⟩)) = true := by
  decide

/-- V4: CALLR +0x10 words. -/
theorem test_callr :
    runs [0xBB, 0x10] (start 0x0000 [])
      (fun t => decide (t.mem.getWord 0x0000FBFE = 0x1002 ∧ t.sp = 0xFBFE ∧ t.ip = 0x1022 ∧
        t.flags = ⟨false, false, false, false, false⟩)) = true := by
  decide

/-- V4: CALLR -0x10 words. -/
theorem test_callr_2 :
    runs [0xBB, 0xF0] (start 0x0000 [])
      (fun t => decide (t.mem.getWord 0x0000FBFE = 0x1002 ∧ t.sp = 0xFBFE ∧ t.ip = 0x0FE2 ∧
        t.flags = ⟨false, false, false, false, false⟩)) = true := by
  decide

/-- V4: CALLS 1, 0x4000. -/
theorem test_calls :
    runs [0xDA, 0x01, 0x00, 0x40] (start 0x0000 [])
      (fun t => decide (t.mem.getWord 0x0000FBFC = 0x1004 ∧ t.mem.getWord 0x0000FBFE = 0x0000 ∧ t.csp = 0x0001 ∧
        t.sp = 0xFBFC ∧ t.ip = 0x4000 ∧ t.flags = ⟨false, false, false, false, false⟩)) = true := by
  decide

/-- V4: JB R1.3, +4 words. -/
theorem test_jb :
    runs [0x8A, 0xF1, 0x04, 0x30] (start 0x0000 [(0xFC02, 0x0008)])
      (fun t => decide (t.ip = 0x100C ∧ t.flags = ⟨false, false, false, false, false⟩)) = true := by
  decide

/-- V4: JB R1.3, -2 words (to itself). -/
theorem test_jb_2 :
    runs [0x8A, 0xF1, 0xFE, 0x30] (start 0x0000 [(0xFC02, 0x0008)])
      (fun t => decide (t.ip = 0x1000 ∧ t.flags = ⟨false, false, false, false, false⟩)) = true := by
  decide

/-- V4: JBC R1.3, +4 words. -/
theorem test_jbc :
    runs [0xAA, 0xF1, 0x04, 0x30] (start 0x0000 [(0xFC02, 0x0008)])
      (fun t => decide (t.mem.getWord 0xFC02 = 0x0000 ∧ t.ip = 0x100C ∧
        t.flags = ⟨false, false, false, false, true⟩)) = true := by
  decide

/-- V4: JMPA cc_UC, 0x2000. -/
theorem test_jmpa :
    runs [0xEA, 0x00, 0x00, 0x20] (start 0x0000 [])
      (fun t => decide (t.ip = 0x2000 ∧ t.flags = ⟨false, false, false, false, false⟩)) = true := by
  decide

/-- V4: JMPA cc_C, 0x2000. -/
theorem test_jmpa_2 :
    runs [0xEA, 0x80, 0x00, 0x20] (start 0x0000 [])
      (fun t => decide (t.ip = 0x1004 ∧ t.flags = ⟨false, false, false, false, false⟩)) = true := by
  decide

/-- V4: JMPI cc_UC, [R4]. -/
theorem test_jmpi :
    runs [0x9C, 0x04] (start 0x0000 [(0xFC08, 0x3000)])
      (fun t => decide (t.ip = 0x3000 ∧ t.flags = ⟨false, false, false, false, false⟩)) = true := by
  decide

/-- V4: JMPR cc_NZ, -2 words. -/
theorem test_jmpr :
    runs [0x3D, 0xFE] (start 0x0008 [])
      (fun t => decide (t.ip = 0x1002 ∧ t.flags = ⟨false, true, false, false, false⟩)) = true := by
  decide

/-- V4: JMPR cc_UC, -1 word (to itself). -/
theorem test_jmpr_2 :
    runs [0x0D, 0xFF] (start 0x0000 [])
      (fun t => decide (t.ip = 0x1000 ∧ t.flags = ⟨false, false, false, false, false⟩)) = true := by
  decide

/-- V4: JMPS 2, 0x8000. -/
theorem test_jmps :
    runs [0xFA, 0x02, 0x00, 0x80] (start 0x0000 [])
      (fun t => decide (t.csp = 0x0002 ∧ t.ip = 0x8000 ∧
        t.flags = ⟨false, false, false, false, false⟩)) = true := by
  decide

/-- V4: JNB R1.3, +4 words. -/
theorem test_jnb :
    runs [0x9A, 0xF1, 0x04, 0x30] (start 0x0000 [(0xFC02, 0x0000)])
      (fun t => decide (t.ip = 0x100C ∧ t.flags = ⟨false, false, false, false, false⟩)) = true := by
  decide

/-- V4: JNBS R1.3, +4 words. -/
theorem test_jnbs :
    runs [0xBA, 0xF1, 0x04, 0x30] (start 0x0016 [(0xFC02, 0x0000)])
      (fun t => decide (t.mem.getWord 0xFC02 = 0x0008 ∧ t.ip = 0x100C ∧
        t.flags = ⟨false, true, false, false, false⟩)) = true := by
  decide

/-- V4: PCALL R1, 0x2000. -/
theorem test_pcall :
    runs [0xE2, 0xF1, 0x00, 0x20] (start 0x0006 [(0xFC02, 0x8000)])
      (fun t => decide (t.mem.getWord 0x0000FBFC = 0x1004 ∧ t.mem.getWord 0x0000FBFE = 0x8000 ∧ t.sp = 0xFBFC ∧
        t.ip = 0x2000 ∧ t.flags = ⟨true, false, true, true, true⟩)) = true := by
  decide

/-- V4: RET. -/
theorem test_ret :
    runs [0xCB, 0x00] ({ start 0x0000 [(0xFBFE, 0x1004)] with sp := 0xFBFE })
      (fun t => decide (t.sp = 0xFC00 ∧ t.ip = 0x1004 ∧ t.flags = ⟨false, false, false, false, false⟩)) = true := by
  decide

/-- V4: RETI (SGTDIS=1). -/
theorem test_reti :
    runs [0xFB, 0x88] ({ start 0x0000 [(0xFBFC, 0x1234), (0xFBFE, 0xF81F)] with syscon := 0x0800, sp := 0xFBFC })
      (fun t => decide (t.sp = 0xFC00 ∧ t.ip = 0x1234 ∧ t.psw = 0xF81F)) = true := by
  decide

/-- V4: RETI (SGTDIS=0). -/
theorem test_reti_2 :
    runs [0xFB, 0x88] ({ start 0x0000 [(0xFBFA, 0x1234), (0xFBFC, 0x0001), (0xFBFE, 0x0801)] with sp := 0xFBFA })
      (fun t => decide (t.csp = 0x0001 ∧ t.sp = 0xFC00 ∧ t.ip = 0x1234 ∧ t.psw = 0x0801)) = true := by
  decide

/-- V4: RETP R1. -/
theorem test_retp :
    runs [0xEB, 0xF1] ({ start 0x0000 [(0xFBFC, 0x1004), (0xFBFE, 0x0000)] with sp := 0xFBFC })
      (fun t => decide (t.mem.getWord 0xFC02 = 0x0000 ∧ t.sp = 0xFC00 ∧ t.ip = 0x1004 ∧
        t.flags = ⟨false, true, false, false, false⟩)) = true := by
  decide

/-- V4: RETS. -/
theorem test_rets :
    runs [0xDB, 0x00] ({ start 0x0000 [(0xFBFC, 0x1004), (0xFBFE, 0x0000)] with csp := 0x0001, sp := 0xFBFC })
      (fun t => decide (t.csp = 0x0000 ∧ t.sp = 0xFC00 ∧ t.ip = 0x1004 ∧
        t.flags = ⟨false, false, false, false, false⟩)) = true := by
  decide

/-- V4: TRAP #0x10 (SGTDIS=0). -/
theorem test_trap :
    runs [0x9B, 0x20] ({ start 0x0808 [] with csp := 0x0001 })
      (fun t => decide (t.mem.getWord 0x0000FBFA = 0x1002 ∧ t.mem.getWord 0x0000FBFC = 0x0001 ∧
        t.mem.getWord 0x0000FBFE = 0x0808 ∧ t.csp = 0x0000 ∧ t.sp = 0xFBFA ∧ t.ip = 0x0040 ∧
        t.flags = ⟨false, true, false, false, false⟩)) = true := by
  decide

/-- V4: TRAP #0x7F (SGTDIS=1). -/
theorem test_trap_2 :
    runs [0x9B, 0xFE] ({ start 0x0808 [] with csp := 0x0001, syscon := 0x0800 })
      (fun t => decide (t.mem.getWord 0x0000FBFC = 0x1002 ∧ t.mem.getWord 0x0000FBFE = 0x0808 ∧ t.sp = 0xFBFC ∧
        t.ip = 0x01FC ∧ t.flags = ⟨false, true, false, false, false⟩)) = true := by
  decide

/-- V5: DISWDT (after reset, window open). -/
theorem test_diswdt :
    runs [0xA5, 0x5A, 0xA5, 0xA5] (start 0x0000 [])
      (fun t => decide (t.ip = 0x1004 ∧ t.wdtEnabled = false ∧
        t.flags = ⟨false, false, false, false, false⟩)) = true := by
  decide

/-- V5: EINIT. -/
theorem test_einit :
    runs [0xB5, 0x4A, 0xB5, 0xB5] (start 0x0000 [])
      (fun t => decide (t.ip = 0x1004 ∧ t.wdtOpen = false ∧ t.initDone = true ∧
        t.flags = ⟨false, false, false, false, false⟩)) = true := by
  decide

/-- V5: IDLE. -/
theorem test_idle :
    runs [0x87, 0x78, 0x87, 0x87] (start 0x0000 [])
      (fun t => decide (t.ip = 0x1004 ∧ t.runState = .idle ∧
        t.flags = ⟨false, false, false, false, false⟩)) = true := by
  decide

/-- V5: NOP. -/
theorem test_nop :
    runs [0xCC, 0x00] (start 0x0000 [])
      (fun t => decide (t.ip = 0x1002 ∧ t.flags = ⟨false, false, false, false, false⟩)) = true := by
  decide

/-- V5: PWRDN with NMI# high (default host): acts as NOP. -/
theorem test_pwrdn :
    runs [0x97, 0x68, 0x97, 0x97] (start 0x0000 [])
      (fun t => decide (t.ip = 0x1004 ∧ t.flags = ⟨false, false, false, false, false⟩)) = true := by
  decide

/-- V5: SRVWDT. -/
theorem test_srvwdt :
    runs [0xA7, 0x58, 0xA7, 0xA7] ({ start 0x0000 [] with wdtcon := 0x8000, wdt := 0x1234 })
      (fun t => decide (t.wdt = 0x8000 ∧ t.ip = 0x1004 ∧ t.wdtOpen = false ∧
        t.flags = ⟨false, false, false, false, false⟩)) = true := by
  decide

/-- V6: DIV R3 (-7 / 2). -/
theorem test_div :
    runs [0x4B, 0x33] ({ start 0x0000 [(0xFC06, 0x0002)] with mdl := 0xFFF9, mdh := 0x0000 })
      (fun t => decide (t.mdh = 0xFFFF ∧ t.mdl = 0xFFFD ∧ t.ip = 0x1002 ∧
        t.flags = ⟨false, false, false, false, true⟩)) = true := by
  decide

/-- V6: DIV R3 (7 / -2; old MDH ignored). -/
theorem test_div_2 :
    runs [0x4B, 0x33] ({ start 0x0000 [(0xFC06, 0xFFFE)] with mdl := 0x0007, mdh := 0x1234 })
      (fun t => decide (t.mdh = 0x0001 ∧ t.mdl = 0xFFFD ∧ t.ip = 0x1002 ∧
        t.flags = ⟨false, false, false, false, true⟩)) = true := by
  decide

/-- V6: DIVL R3 (-7 / -2). -/
theorem test_divl :
    runs [0x6B, 0x33] ({ start 0x0000 [(0xFC06, 0xFFFE)] with mdl := 0xFFF9, mdh := 0xFFFF })
      (fun t => decide (t.mdl = 0x0003 ∧ t.ip = 0x1002 ∧ t.mdh = 0xFFFF ∧
        t.flags = ⟨false, false, false, false, false⟩)) = true := by
  decide

/-- V6: DIVL R3 (65535 / 2). -/
theorem test_divl_2 :
    runs [0x6B, 0x33] ({ start 0x0000 [(0xFC06, 0x0002)] with mdl := 0xFFFF, mdh := 0x0000 })
      (fun t => decide (t.mdh = 0x0001 ∧ t.mdl = 0x7FFF ∧ t.ip = 0x1002 ∧
        t.flags = ⟨false, false, false, false, false⟩)) = true := by
  decide

/-- V6: DIVLU R3 (65536 / 2). -/
theorem test_divlu :
    runs [0x7B, 0x33] ({ start 0x0000 [(0xFC06, 0x0002)] with mdl := 0x0000, mdh := 0x0001 })
      (fun t => decide (t.mdh = 0x0000 ∧ t.mdl = 0x8000 ∧ t.ip = 0x1002 ∧
        t.flags = ⟨false, false, false, false, true⟩)) = true := by
  decide

/-- V6: DIVLU R3 (1 / 2). -/
theorem test_divlu_2 :
    runs [0x7B, 0x33] ({ start 0x0000 [(0xFC06, 0x0002)] with mdl := 0x0001, mdh := 0x0000 })
      (fun t => decide (t.mdh = 0x0001 ∧ t.mdl = 0x0000 ∧ t.ip = 0x1002 ∧
        t.flags = ⟨false, true, false, false, false⟩)) = true := by
  decide

/-- V6: DIVU R3 (65535 / 1). -/
theorem test_divu :
    runs [0x5B, 0x33] ({ start 0x0000 [(0xFC06, 0x0001)] with mdl := 0xFFFF, mdh := 0x0000 })
      (fun t => decide (t.ip = 0x1002 ∧ t.mdl = 0xFFFF ∧ t.mdh = 0x0000 ∧
        t.flags = ⟨false, false, false, false, true⟩)) = true := by
  decide

/-- V6: DIVU R3 (65529 / 2; old MDH ignored). -/
theorem test_divu_2 :
    runs [0x5B, 0x33] ({ start 0x0000 [(0xFC06, 0x0002)] with mdl := 0xFFF9, mdh := 0x5555 })
      (fun t => decide (t.mdh = 0x0001 ∧ t.mdl = 0x7FFC ∧ t.ip = 0x1002 ∧
        t.flags = ⟨false, false, false, false, false⟩)) = true := by
  decide

/-- V6: MUL R1, R2 (-1 * 2). -/
theorem test_mul :
    runs [0x0B, 0x12] ({ start 0x0000 [(0xFC02, 0xFFFF), (0xFC04, 0x0002)] with mdl := 0x0000, mdh := 0x0000 })
      (fun t => decide (t.mdh = 0xFFFF ∧ t.mdl = 0xFFFE ∧ t.ip = 0x1002 ∧
        t.flags = ⟨false, false, false, false, true⟩)) = true := by
  decide

/-- V6: MUL R1, R2 (16384 * 2). -/
theorem test_mul_2 :
    runs [0x0B, 0x12] ({ start 0x0000 [(0xFC02, 0x4000), (0xFC04, 0x0002)] with mdl := 0x0000, mdh := 0x0000 })
      (fun t => decide (t.mdl = 0x8000 ∧ t.ip = 0x1002 ∧ t.flags = ⟨false, false, true, false, false⟩)) = true := by
  decide

/-- V6: MULU R1, R2. -/
theorem test_mulu :
    runs [0x1B, 0x12] ({ start 0x0000 [(0xFC02, 0xFFFF), (0xFC04, 0xFFFF)] with mdl := 0x0000, mdh := 0x0000 })
      (fun t => decide (t.mdh = 0xFFFE ∧ t.mdl = 0x0001 ∧ t.ip = 0x1002 ∧
        t.flags = ⟨false, false, true, false, true⟩)) = true := by
  decide

/-- V6: MULU R1, R2 (x * 0). -/
theorem test_mulu_2 :
    runs [0x1B, 0x12] ({ start 0x0000 [(0xFC02, 0x0100), (0xFC04, 0x0000)] with mdl := 0x0005, mdh := 0x0005 })
      (fun t => decide (t.mdh = 0x0000 ∧ t.mdl = 0x0000 ∧ t.ip = 0x1002 ∧
        t.flags = ⟨false, true, false, false, false⟩)) = true := by
  decide

/-- V7: MOV R1, #5. -/
theorem test_mov :
    runs [0xE0, 0x51] (start 0x0006 [(0xFC02, 0xFFFF)])
      (fun t => decide (t.mem.getWord 0xFC02 = 0x0005 ∧ t.ip = 0x1002 ∧
        t.flags = ⟨false, false, true, true, false⟩)) = true := by
  decide

/-- V7: MOV R1, [R2+#4] (address wraps to 0x0002). -/
theorem test_mov_2 :
    runs [0xD4, 0x12, 0x04, 0x00] (start 0x0000 [(0x0002, 0x4321), (0xFC02, 0x0000), (0xFC04, 0xFFFE)])
      (fun t => decide (t.mem.getWord 0xFC02 = 0x4321 ∧ t.ip = 0x1004 ∧
        t.flags = ⟨false, false, false, false, false⟩)) = true := by
  decide

/-- V7: MOVB [R1+], [R2]. -/
theorem test_movb :
    runs [0xD9, 0x12] (start 0x0000 [(0x2000, 0x1122), (0x2100, 0x0080), (0xFC02, 0x2001), (0xFC04, 0x2100)])
      (fun t => decide (t.mem.getWord 0x2000 = 0x8022 ∧ t.mem.getWord 0xFC02 = 0x2002 ∧ t.ip = 0x1002 ∧
        t.flags = ⟨true, false, false, false, true⟩)) = true := by
  decide

/-- V7: MOVB RL1, 0x3001 (reg 0xF2). -/
theorem test_movb_2 :
    runs [0xF3, 0xF2, 0x01, 0x30] (start 0x0000 [(0x3000, 0x3412), (0xFC02, 0xFFFF)])
      (fun t => decide (t.mem.getWord 0xFC02 = 0xFF34 ∧ t.ip = 0x1004 ∧
        t.flags = ⟨false, false, false, false, false⟩)) = true := by
  decide

/-- V7: MOVBS R1, RL1. -/
theorem test_movbs :
    runs [0xD0, 0x21] (start 0x0000 [(0xFC02, 0x1280)])
      (fun t => decide (t.mem.getWord 0xFC02 = 0xFF80 ∧ t.ip = 0x1002 ∧
        t.flags = ⟨false, false, false, false, true⟩)) = true := by
  decide

/-- V7: MOVBS 0x2000, RL1 (reg 0xF2; WORD destination). -/
theorem test_movbs_2 :
    runs [0xD5, 0xF2, 0x00, 0x20] (start 0x0000 [(0x2000, 0x0000), (0xFC02, 0x0080)])
      (fun t => decide (t.mem.getWord 0x2000 = 0xFF80 ∧ t.ip = 0x1004 ∧
        t.flags = ⟨false, false, false, false, true⟩)) = true := by
  decide

/-- V7: MOVBSZ 0x2000, RL1. -/
theorem test_movbsz :
    runs [0xC5, 0xF2, 0x00, 0x20] (start 0x0000 [(0x2000, 0xFFFF), (0xFC02, 0x0000)])
      (fun t => decide (t.mem.getWord 0x2000 = 0x0000 ∧ t.ip = 0x1004 ∧
        t.flags = ⟨false, true, false, false, false⟩)) = true := by
  decide

/-- V7: MOVBSZ R1, 0x2001. -/
theorem test_movbsz_2 :
    runs [0xC2, 0xF1, 0x01, 0x20] (start 0x0000 [(0x2000, 0x80FF), (0xFC02, 0xFFFF)])
      (fun t => decide (t.mem.getWord 0xFC02 = 0x0080 ∧ t.ip = 0x1004 ∧
        t.flags = ⟨false, false, false, false, false⟩)) = true := by
  decide

/-- V7: POP PSW (flag update lost). -/
theorem test_pop :
    runs [0xFC, 0x88] ({ start 0x0000 [(0xFBFE, 0x081F)] with sp := 0xFBFE })
      (fun t => decide (t.sp = 0xFC00 ∧ t.ip = 0x1002 ∧ t.psw = 0x081F)) = true := by
  decide

/-- V7: POP SP (reg 0x09): SP = popped value. -/
theorem test_pop_2 :
    runs [0xFC, 0x09] ({ start 0x0000 [(0xFBFE, 0xFB00)] with sp := 0xFBFE })
      (fun t => decide (t.sp = 0xFB00 ∧ t.ip = 0x1002 ∧ t.flags = ⟨false, false, false, false, true⟩)) = true := by
  decide

/-- V7: PUSH R1. -/
theorem test_push :
    runs [0xEC, 0xF1] (start 0x0000 [(0xFC02, 0x0000)])
      (fun t => decide (t.mem.getWord 0x0000FBFE = 0x0000 ∧ t.sp = 0xFBFE ∧ t.ip = 0x1002 ∧
        t.flags = ⟨false, true, false, false, false⟩)) = true := by
  decide

/-- V7: PUSH SP (value before the decrement). -/
theorem test_push_2 :
    runs [0xEC, 0x09] (start 0x0000 [])
      (fun t => decide (t.mem.getWord 0x0000FBFE = 0xFC00 ∧ t.sp = 0xFBFE ∧ t.ip = 0x1002 ∧
        t.flags = ⟨false, false, false, false, true⟩)) = true := by
  decide

/-- V7: SCXT CP, #0xFB00. -/
theorem test_scxt :
    runs [0xC6, 0x08, 0x00, 0xFB] (start 0x001A [])
      (fun t => decide (t.mem.getWord 0x0000FBFE = 0xFC00 ∧ t.cp = 0xFB00 ∧ t.sp = 0xFBFE ∧ t.ip = 0x1004 ∧
        t.flags = ⟨true, true, false, true, false⟩)) = true := by
  decide

/-- V7: SCXT SP, #0xFB00 (reg 0x09). -/
theorem test_scxt_2 :
    runs [0xC6, 0x09, 0x00, 0xFB] (start 0x0000 [])
      (fun t => decide (t.mem.getWord 0x0000FBFE = 0xFC00 ∧ t.sp = 0xFB00 ∧ t.ip = 0x1004 ∧
        t.flags = ⟨false, false, false, false, false⟩)) = true := by
  decide

/-- V8: ATOMIC #2. -/
theorem test_atomic :
    runs [0xD1, 0x10] (start 0x0000 [])
      (fun t => decide (t.ip = 0x1002 ∧ t.seq.count = 2 ∧
        t.flags = ⟨false, false, false, false, false⟩)) = true := by
  decide

/-- V8: EXTR #1. -/
theorem test_extr :
    runs [0xD1, 0x80] (start 0x0000 [])
      (fun t => decide (t.ip = 0x1002 ∧ t.seq.count = 1 ∧ t.seq.esfr = true ∧
        t.flags = ⟨false, false, false, false, false⟩)) = true := by
  decide

/-- V8: EXTP R5, #2 (bits 15..10 of R5 ignored). -/
theorem test_extp :
    runs [0xDC, 0x55] (start 0x0000 [(0xFC0A, 0xFC02)])
      (fun t => decide (t.ip = 0x1002 ∧ t.seq.count = 2 ∧ t.seq.page = some 0x2 ∧
        t.flags = ⟨false, false, false, false, false⟩)) = true := by
  decide

/-- V8: EXTPR #3, #1. -/
theorem test_extpr :
    runs [0xD7, 0xC0, 0x03, 0x00] (start 0x0000 [])
      (fun t => decide (t.ip = 0x1004 ∧ t.seq.count = 1 ∧ t.seq.esfr = true ∧ t.seq.page = some 0x3 ∧
        t.flags = ⟨false, false, false, false, false⟩)) = true := by
  decide

/-- V8: EXTPR R4, #4. -/
theorem test_extpr_2 :
    runs [0xDC, 0xF4] (start 0x0000 [(0xFC08, 0x0001)])
      (fun t => decide (t.ip = 0x1002 ∧ t.seq.count = 4 ∧ t.seq.esfr = true ∧ t.seq.page = some 0x1 ∧
        t.flags = ⟨false, false, false, false, false⟩)) = true := by
  decide

/-- V8: EXTS R2, #1 (bits 15..8 of R2 ignored). -/
theorem test_exts :
    runs [0xDC, 0x02] (start 0x0000 [(0xFC04, 0x0101)])
      (fun t => decide (t.ip = 0x1002 ∧ t.seq.count = 1 ∧ t.seq.seg = some 0x1 ∧
        t.flags = ⟨false, false, false, false, false⟩)) = true := by
  decide

/-- V8: EXTSR R2, #4. -/
theorem test_extsr :
    runs [0xDC, 0xB2] (start 0x0000 [(0xFC04, 0x0001)])
      (fun t => decide (t.ip = 0x1002 ∧ t.seq.count = 4 ∧ t.seq.esfr = true ∧ t.seq.seg = some 0x1 ∧
        t.flags = ⟨false, false, false, false, false⟩)) = true := by
  decide

/-- V8: EXTSR #1, #1. -/
theorem test_extsr_2 :
    runs [0xD7, 0x80, 0x01, 0x00] (start 0x0000 [])
      (fun t => decide (t.ip = 0x1004 ∧ t.seq.count = 1 ∧ t.seq.esfr = true ∧ t.seq.seg = some 0x1 ∧
        t.flags = ⟨false, false, false, false, false⟩)) = true := by
  decide

/-- R450: SRST takes the reset state. -/
theorem test_srst :
    runs [0xB7, 0x48, 0xB7, 0xB7] { start 0xF81F [] with sp := 0x1234, initDone := true, wdtOpen := false }
      (fun t => decide (t.ip = 0 ∧ t.sp = 0xFC00 ∧ t.psw = 0 ∧ t.initDone = false ∧ t.wdtOpen = true)) = true := by
  decide

/-- R65, R408: an odd WORD operand with `HW_TRAP_ENTRY = modelled` requests the trap and does nothing else. -/
theorem test_odd_word_requests :
    runs [0xA8, 0x12] (start 0 [(0xFC04, 0x2001)])
      (fun t => decide (t.ip = 0x1000 ∧ t.tfr = 0x0004 ∧ t.pending.classB.isSome = true)) = true := by decide

/-- R401, R407, R408: the request is entered at the next step at 4 * 0x0A, level 15. -/
theorem test_class_b_entered :
    runs [0xCC, 0x00] { start 0 [] with pending := { classB := some ⟨0x0A, 0x1000⟩ } }
      (fun t => decide (t.ip = 0x0028 ∧ t.psw = 0xF000 ∧ t.sp = 0xFBFA ∧ t.mem.getWord 0xFBFA = 0x1000)) = true := by
  decide

/-- R460: with `PIPELINE_HAZARD_POLICY = refuse` a pointer is not used right after an explicit write of its DPP. -/
theorem test_hazard_dpp :
    hazard (.movRegMem 0xF1 0x3000) { start 0 [] with lastWrites := [.dpp 0] } = some (.dpp 0) ∧
    hazard (.movRwRw 1 2) { start 0 [] with lastWrites := [.dpp 0] } = none := by decide

/-- The bits of a table word: the first byte is the most significant (log entry 42). -/
theorem test_table_word :
    decodeTableWord 16 0x0012 = some (.addRwRw 1 2) ∧ decodeTableWord 32 0xDA120040 = some (.calls 0x12 0x4000) ∧
    decodeTableWord 16 0x8B00 = none := by decide

/-- The first step from reset runs the instruction placed where it fetches. -/
theorem test_fetch_word :
    (match step (State.reset.withFetchWord 32 0xB54AB5B5) with
     | .next t => decide (t.initDone = true ∧ t.ip = 4)
     | _ => false) = true := by decide

/-- R77, R359: the flags come after the pointer update. With CP = 0xFF10 R0 lies over PSW and R7 over ONES; MOV [-R0], R7
leaves PSW = 0x0806 with the flags of 0xFFFF. -/
theorem test_flags_last :
    runs [0x88, 0x70] { start 0x0808 [] with cp := 0xFF10 }
      (fun t => decide (t.psw = 0x0807 ∧ t.mem.getWord 0x0806 = 0xFFFF ∧ t.ip = 0x1002)) = true := by decide

/-- R410, R461 (f), U27: a RETI is refused when SGTDIS has changed since the entry its frame belongs to. -/
theorem test_reti_segmentation :
    (match exec (.trap 0x10) (start 0x0808 []) with
     | .next t => runs [0xFB, 0x88] t (fun u => decide (u.ip = 0x1002 ∧ u.psw = 0x0808)) &&
         !runs [0xFB, 0x88] { t with syscon := 0x0800 } (fun _ => true)
     | _ => false) = true := by decide

/-- R228: a device without `HAS_EXT` has no ESFR area. -/
theorem test_no_esfr :
    let c : Config := { device := { hasExt := false } }
    classify c 0x00F000 = .ram ∧ classify c 0x00F1FF = .ram ∧ classify c 0x00FE12 = .core .sp ∧
    classify {} 0x00F000 = .platform := by decide

/-- R45, R450: the reset state is what a reset gives with the default values. -/
theorem test_reset_values :
    let s := State.reset.resetBy .software
    s = { State.reset with mem := s.mem, draws := s.draws } := rfl

/-- R44, R45: of PSW a reset clears the flags, MULIP and the reserved bits of what the table has. -/
theorem test_reset_psw :
    (({ State.reset with cfg := { resetValues := { psw := 0xFFFF } } } : State).resetBy .software).psw = 0xFC40 := by decide

/-- R4, D10: a reserved encoding is refused where `RESERVED_OPCODE = refuse`. -/
theorem test_reserved_refused :
    (match step (placeBytes 0 [0x8B, 0x00] { start 0 [] with cfg := { reservedOpcode := .refuse } }) with
     | .refused r => decide (r = .classBRefused (.undefinedOpcode 0x8B 0x00))
     | _ => false) = true := by decide

/-- R22: with `abstract_file` the registers are outside memory, so a program runs whatever the map has at CP, here nothing. -/
theorem test_file_outside_memory :
    let c : Config := { gprModel := .abstractFile, map := [⟨0, 0x2000, .ram⟩] }
    runs [0x00, 0x12] { start 0 [(0xFC02, 3), (0xFC04, 4)] with cfg := c }
      (fun t => decide (t.mem.getWord 0xFC02 = 7 ∧ t.ip = 0x1002)) = true ∧
    classify { c with gprModel := .memoryMapped } 0x00FC02 = .absent := by decide

/-- R22, D2: with `abstract_file` a `mem` operand in the bank is refused. -/
theorem test_file_addressed :
    (match step (placeBytes 0 [0xF2, 0xF1, 0x1E, 0xFC] { start 0 [] with cfg := { gprModel := .abstractFile } }) with
     | .refused r => decide (r = .registerFile 0x00FC1E)
     | _ => false) = true := by decide

/-- R403: trap numbers 0x10 to 0x7F. -/
theorem test_irq_trap_numbers :
    (IrqRequest.mk 0 1).trapNo = 0x10 ∧ (IrqRequest.mk 111 1).trapNo = 0x7F := by decide

/-! ## Witnesses of the statements -/

/-- R1 = 0x2000, R2 = 0x2001, R3 = 2; CP and SP are 0xFC00; IP is 0x1000. -/
def ptrs : State := start 0 [(0xFC02, 0x2000), (0xFC04, 0x2001), (0xFC06, 0x0002)]

/-- `ptrs` with segmentation disabled. -/
def flat : State := { ptrs with syscon := 0x0800 }

/-- `ptrs` with `HW_TRAP_ENTRY = fault`. -/
def faulting : State := { ptrs with cfg := { trapEntry := .fault } }

/-- `ptrs` with a ROM above the RAM. -/
def withRom : State := { ptrs with cfg := { map := [⟨0, 0x40000, .ram⟩, ⟨0x40000, 0x10000, .rom⟩] } }

/-- `ptrs` with `GPR_MODEL = abstract_file`. -/
def ownFile : State := { ptrs with cfg := { gprModel := .abstractFile, trapEntry := .modelled } }

/-- `ptrs` with a watchdog that counts 256 a step. -/
def counting : State := { ptrs with cfg := { wdtRate := some 0x100 }, wdt := 0xFF00 }

theorem test_ptrs_bank : BankInRam ptrs := by unfold BankInRam; decide

theorem test_not_trapped {s t : State} (h : t.pending.classB = none) : ¬ trapped s t := by
  rintro ⟨e, rfl⟩
  simp [State.requestClassB] at h

theorem test_witness_DecodeOnlyEncodings :
    decode [0x00, 0x12, 0x77] = .instr (.addRwRw 1 2) [0x77] ∧
    decode [0x07, 0xF2, 0x80, 0x99] = .instr (.addbRegData8 0xF2 0x80) [] ∧
    encode (.addbRegData8 0xF2 0x80) = [0x07, 0xF2, 0x80, 0x00] := by decide

theorem test_witness_ReservedEncodings :
    (0x3B : Byte) ∈ unassignedOpcodes ∧ (0xF9 : Byte) ∈ unassignedOpcodes ∧
    isProtected 0x87 = true ∧ isProtected 0xB7 = true ∧
    ((0x78 : Byte) = ~~~(0x87 : Byte)) ∧ ((0x79 : Byte) ≠ ~~~(0x87 : Byte)) := by decide

theorem test_witness_StepRunsDecoded :
    let s := placeBytes 0 [0x06, 0xF1, 0x34, 0x12] ptrs
    Quiet s ∧ s.ip.getLsbD 0 = false ∧ fetchBytes s = .ok [0x06, 0xF1, 0x34, 0x12] ∧
      decode [0x06, 0xF1, 0x34, 0x12] = .instr (.addRegData16 0xF1 0x1234) [] ∧
      (Instr.addRegData16 0xF1 0x1234).wf s.cfg.device = true ∧ hazard (.addRegData16 0xF1 0x1234) s = none ∧
      s.cfg.gprModel = .memoryMapped :=
  ⟨by unfold Quiet; decide, by decide, rfl, by decide, by decide, by decide, by decide⟩

theorem test_none_of {α : Type} {l : List α} {p : α → Bool} (h : l.any p = false) : ∀ a ∈ l, p a = false := by
  simpa using h

/-- The outcome is a next state of which `p` holds. -/
def next (p : State → Bool) (r : StepOutcome) : Bool :=
  match r with
  | .next t => p t
  | _ => false

/-- The outcome is this refusal. -/
def refusedBy (e : Refusal) (r : StepOutcome) : Bool :=
  match r with
  | .refused x => decide (x = e)
  | _ => false

/-- With a register file of its own: every premise but what the instruction reaches. -/
theorem test_witness_StepRunsDecoded_file :
    let s := placeBytes 0 [0x06, 0xF1, 0x34, 0x12] ownFile
    Quiet s ∧ s.ip.getLsbD 0 = false ∧ fetchBytes s = .ok [0x06, 0xF1, 0x34, 0x12] ∧
      hazard (.addRegData16 0xF1 0x1234) s = none ∧ s.cfg.gprModel = .abstractFile ∧
      s.cp = s.cfg.resetValues.cp &&& 0xFFFE :=
  ⟨by unfold Quiet; decide, by decide, rfl, by decide, by decide, by decide⟩

/-- A program that keeps to the file, one that writes CP, one that is refused, one that reaches the memory at CP. -/
theorem test_witness_StepRunsDecoded_keeps :
    let s := placeBytes 0 [0x06, 0xF1, 0x34, 0x12] ownFile
    (∀ pa ∈ reached (.addRegData16 0xF1 0x1234) s, inFile s.cfg pa = false) ∧
    next (fun t => decide (.cp ∉ t.lastWrites ∧ t.cp = s.cp)) (exec (.addRegData16 0xF1 0x1234) { s with lastWrites := [] }) =
      true := ⟨test_none_of (by decide), by decide⟩

theorem test_witness_StepRunsDecoded_cp :
    let s := placeBytes 0 [0xE6, 0x08, 0x00, 0xFB] ownFile
    (∀ pa ∈ reached (.movRegData16 0x08 0xFB00) s, inFile s.cfg pa = false) ∧
    next (fun t => decide (.cp ∈ t.lastWrites)) (exec (.movRegData16 0x08 0xFB00) { s with lastWrites := [] }) = true :=
  ⟨test_none_of (by decide), by decide⟩

theorem test_witness_StepRunsDecoded_refused :
    let s := placeBytes 0 [0xE6, 0x04, 0x01, 0x00] ownFile
    (∀ pa ∈ reached (.movRegData16 0x04 1) s, inFile s.cfg pa = false) ∧
    refusedBy .cspWrite (exec (.movRegData16 0x04 1) { s with lastWrites := [] }) = true :=
  ⟨test_none_of (by decide), by decide⟩

theorem test_witness_StepRunsDecoded_bank :
    let s := placeBytes 0 [0xF2, 0xF1, 0x1F, 0xFC] ownFile
    ∃ pa ∈ reached (.movRegMem 0xF1 0xFC1F) s, inFile s.cfg pa = true := List.any_eq_true.mp (by decide)

/-- CP has been written. -/
theorem test_witness_StepRunsDecoded_moved :
    let s := { placeBytes 0 [0xCC, 0x00] ownFile with cp := 0xFB00 }
    Quiet s ∧ fetchBytes s = .ok [0xCC, 0x00] ∧ s.cp ≠ s.cfg.resetValues.cp &&& 0xFFFE :=
  ⟨by unfold Quiet; decide, rfl, by decide⟩

theorem test_witness_FetchStops_file :
    let s : State := { ownFile with ip := 0xFC1C }
    Quiet s ∧ s.ip.getLsbD 0 = false ∧ inFile s.cfg (codeAddr s 0) = true ∧ inFile s.cfg (codeAddr s 4) = false :=
  ⟨by unfold Quiet; decide, by decide, by decide, by decide⟩

theorem test_witness_StepRunsDecoded_reads :
    (.mem 0x2000, .word) ∈ readLocs (.addRegMem 0xF1 0x2000) ∧ (.ind 1, .word) ∈ readLocs (.addRwInd 2 1) ∧
    stackAddr (ownFile.sp - 2) ∈ reached (.push 0xF1) ownFile ∧ stackAddr ownFile.sp ∈ reached (.pop 0xF1) ownFile ∧
    (∃ e, exec (.movRwInd 1 2) faulting = .fault e) :=
  ⟨by decide, by decide, by decide, by decide, _, rfl⟩

theorem test_witness_AddressRules :
    State.reset.cfg.device.segWidth = .eight ∧ State.reset.seq.seg = none ∧ State.reset.seq.page = none ∧
    State.reset.sgtdis = false ∧ flat.sgtdis = true ∧
    (dataAddr 0x3FFF State.reset).toNat = 0x3FFF ∧ (dataAddr 0x4000 State.reset).toNat = 0x4000 ∧
    (dataAddr 0xC000 State.reset).toNat = 0xC000 ∧ (dataAddr 0xFFFF flat).toNat = 0xFFFF ∧
    (dataAddr 0xFFFF { ptrs with seq := { count := 1, seg := some 0xFF } }).toNat = 0xFFFFFF ∧
    (dataAddr 0xFFFF { ptrs with seq := { count := 1, page := some 0x3FF } }).toNat = 0xFFFFFF ∧
    (codeAddr { ptrs with csp := 1, ip := 0xFFFE } 3).toNat = 0x10001 ∧
    (codeAddr { ptrs with csp := 5, cfg := { device := { segWidth := .two } } } 0).toNat = 0x11000 ∧
    (let s : State := { ptrs with cfg := { device := { segWidth := .two } } }
     (dataAddr 0xFFFF { s with seq := { count := 1, seg := some 7 } }).toNat = 0x3FFFF ∧
     (dataAddr 0xFFFF { s with seq := { count := 1, page := some 0x1F } }).toNat = 0x3FFFF ∧
     (dataAddr 0x8001 { s with dpp2 := 0x10 }).toNat = 0x00001) := by decide

theorem test_witness_StepKeepsInv :
    let s := placeBytes 0 [0xCC, 0x00] ptrs
    MachineInv s ∧ ∃ t, step s = .next t :=
  ⟨by unfold MachineInv; decide, _, rfl⟩

theorem test_witness_StepKeepsParameters : ∃ t, step (placeBytes 0 [0xCC, 0x00] ptrs) = .next t := ⟨_, rfl⟩

theorem test_witness_ResetEffect :
    classify withRom.cfg (BitVec.ofNat 24 0x40000) = .rom ∧ classify withRom.cfg (BitVec.ofNat 24 0x4FFFF) = .rom ∧
    withRom.cfg.psw.wf = true ∧ withRom.cfg.resetValues = {} ∧ withRom.cfg.psw = {} := by decide

theorem test_witness_ResetTaken :
    ({ reset := true } : Pending).reset = true ∧
    watchdogResets { ptrs with pending := { wdtOverflow := true } } = true ∧
    ({ ptrs with runState := .powerDown } : State).pending.reset = false := by decide

theorem test_witness_IdleState :
    (∀ s ∈ [({ ptrs with runState := .idle } : State), { counting with runState := .idle }],
      s.pending.reset = false ∧ s.runState = .idle ∧ watchdogResets s = false ∧ s.pending = {}) ∧
    (∀ p ∈ [({ nmi := true } : Pending), { stackOverflow := true }, { stackUnderflow := true }, { irqs := [⟨0, 0⟩] },
        { pec := [⟨[]⟩] }],
      let q : State := { ptrs with runState := .idle, pending := p }
      q.pending.reset = false ∧ q.runState = .idle ∧ watchdogResets q = false) ∧
    ptrs.cfg.wdtRate = none ∧ counting.cfg.wdtRate = some 0x100 ∧ counting.wdtEnabled = true ∧
    counting.wdt.toNat + 0x100 = 65536 := by decide

theorem test_witness_WatchdogWindow :
    (∃ t, exec .srst ptrs = .next t) ∧ (∃ t, exec .diswdt ptrs = .next t) ∧ (∃ t, exec .srvwdt ptrs = .next t) ∧
    (∃ t, exec .einit ptrs = .next t) ∧ (∃ t, exec .nop ptrs = .next t) ∧ ptrs.wdtOpen = true :=
  ⟨⟨_, rfl⟩, ⟨_, rfl⟩, ⟨_, rfl⟩, ⟨_, rfl⟩, ⟨_, rfl⟩, rfl⟩

/-- The third clause: a step that runs NOP (CC 00) is no reset, since IP is 2 after it. -/
theorem test_witness_WatchdogWindow_step :
    let s := ptrs.withFetchWord 16 0xCC00
    (∃ t, step s = .next t ∧ ∀ c, t ≠ s.resetBy c) ∧ fetchInstr s = .ok .nop := by
  refine ⟨⟨_, rfl, fun c h => ?_⟩, rfl⟩
  cases c <;> exact absurd (congrArg State.ip h) (by decide)

theorem test_witness_LatchedRegisters :
    (∃ t, exec .einit ptrs = .next t) ∧ (∃ t, exec .srst { ptrs with initDone := true } = .next t) ∧
    (∃ t, exec .nop { ptrs with initDone := true } = .next t) ∧ (∃ t, exec (.jmps 0xFF 0) ptrs = .next t) :=
  ⟨⟨_, rfl⟩, ⟨_, rfl⟩, ⟨_, rfl⟩, ⟨_, rfl⟩⟩

theorem test_witness_SequenceCount :
    (∃ t, exec (.movRwInd 1 2) ptrs = .next t ∧ trapped ptrs t) ∧
    (∀ n ∈ [1, 2, 4], ∃ t, exec .nop { ptrs with seq := { count := n } } = .next t ∧
      ¬ trapped { ptrs with seq := { count := n } } t) ∧
    startsSequence .nop = false ∧ startsSequence (.movRwInd 1 2) = false ∧ Instr.srvwdt ≠ .srst := by
  refine ⟨⟨_, rfl, .illegalWordOperandAccess 0x002001, rfl⟩, ?_, by decide, by decide, by decide⟩
  intro n _
  exact ⟨_, rfl, test_not_trapped rfl⟩

theorem test_witness_RaiseClassB :
    faulting.cfg.trapEntry = .fault ∧ ptrs.cfg.trapEntry = .modelled ∧ ptrs.cfg.oddTarget = .raise ∧
    faulting.cfg.reservedOpcode = .raise ∧ ({ oddTarget := .refuse } : Config).oddTarget = .refuse ∧
    ({ reservedOpcode := .refuse } : Config).reservedOpcode = .refuse := by decide

theorem test_witness_FetchStops :
    (Quiet { ptrs with ip := 0x1001 } ∧ ({ ptrs with ip := 0x1001 } : State).ip.getLsbD 0 = true) ∧
    (let s := placeBytes 0 [0x8B, 0x00] ptrs
     Quiet s ∧ s.ip.getLsbD 0 = false ∧ fetchBytes s = .ok [0x8B, 0x00] ∧
       decode [0x8B, 0x00] = .undefinedOpcode 0x8B 0x00) ∧
    (let s := placeBytes 0 [0xA5, 0x5A, 0xA5, 0xA4] ptrs
     Quiet s ∧ s.ip.getLsbD 0 = false ∧ fetchBytes s = .ok [0xA5, 0x5A, 0xA5, 0xA4] ∧
       decode [0xA5, 0x5A, 0xA5, 0xA4] = .protectionMismatch 0xA5 0x5A 0xA5 0xA4) ∧
    (let s := placeBytes 0 [0xD1, 0x10] { ptrs with cfg := { device := { hasExt := false } } }
     Quiet s ∧ s.ip.getLsbD 0 = false ∧ fetchBytes s = .ok [0xD1, 0x10] ∧
       decode [0xD1, 0x10] = .instr (.atomic 1) [] ∧ (Instr.atomic 1).wf s.cfg.device = false) ∧
    (let s : State := { ptrs with csp := 4 }
     Quiet s ∧ s.ip.getLsbD 0 = false ∧ classify s.cfg (codeAddr s 0) ≠ .ram ∧ classify s.cfg (codeAddr s 0) ≠ .rom) ∧
    (let s : State := { ptrs with changed := [0x1000] }
     Quiet s ∧ s.ip.getLsbD 0 = false ∧ classify s.cfg (codeAddr s 0) = .ram ∧ s.cfg.selfModifying = .refuse ∧
       (codeAddr s 0).toNat ∈ s.changed) ∧
    (let s := placeBytes 0 [0x06, 0xF1] { ptrs with cfg := { map := [⟨0, 0x1002, .ram⟩] } }
     Quiet s ∧ s.ip.getLsbD 0 = false ∧ 2 < (if lengthOf (s.mem.get (codeAddr s 0).toNat) = 2 then 2 else 4) ∧
       (∀ j, j < 2 → classify s.cfg (codeAddr s j) = .ram ∧ inFile s.cfg (codeAddr s j) = false ∧ (codeAddr s j).toNat ∉ s.changed) ∧
       classify s.cfg (codeAddr s 2) ≠ .ram ∧ classify s.cfg (codeAddr s 2) ≠ .rom) ∧
    (let s := { placeBytes 0 [0x06, 0xF1, 0x34, 0x12] ptrs with changed := [0x1003] }
     Quiet s ∧ s.ip.getLsbD 0 = false ∧ 3 < (if lengthOf (s.mem.get (codeAddr s 0).toNat) = 2 then 2 else 4) ∧
       (∀ j, j < 3 → classify s.cfg (codeAddr s j) = .ram ∧ inFile s.cfg (codeAddr s j) = false ∧ (codeAddr s j).toNat ∉ s.changed) ∧
       classify s.cfg (codeAddr s 3) = .ram ∧ inFile s.cfg (codeAddr s 3) = false ∧ s.cfg.selfModifying = .refuse ∧ (codeAddr s 3).toNat ∈ s.changed) := by
  refine ⟨⟨by unfold Quiet; decide, by decide⟩, ⟨by unfold Quiet; decide, by decide, rfl, by decide⟩,
    ⟨by unfold Quiet; decide, by decide, rfl, by decide⟩,
    ⟨by unfold Quiet; decide, by decide, rfl, by decide, by decide⟩,
    ⟨by unfold Quiet; decide, by decide, by decide, by decide⟩,
    ⟨by unfold Quiet; decide, by decide, by decide, by decide, by decide⟩,
    ⟨by unfold Quiet; decide, by decide, by decide, by decide, by decide, by decide⟩,
    ⟨by unfold Quiet; decide, by decide, by decide, by decide, by decide, by decide, by decide, by decide⟩⟩

theorem test_witness_StackRoom :
    StackRoom 3 ptrs ∧ StackRoom 2 flat ∧ StackRoom 3 { ptrs with sp := 6 } ∧ StackRoom 1 { ptrs with sp := 2 } := by
  unfold StackRoom; decide

theorem test_witness_ClassBEntry :
    ∀ s ∈ [ptrs, flat, ownFile, { ptrs with seq := { count := 4 }, psw := 0xF000 }],
      let q : State := { s with pending := { classB := some ⟨0x0A, 0x1234⟩ } }
      q.pending.reset = false ∧ q.runState = .running ∧ watchdogResets q = false ∧ q.cfg.trapEntry = .modelled ∧
      q.pending.classB = some ⟨0x0A, 0x1234⟩ ∧ q.mem.wf = true ∧ EntryRoom q := by
  unfold EntryRoom StackRoom; decide

theorem test_witness_ClassAEvents :
    (∀ p ∈ [({ nmi := true, stackOverflow := true } : Pending), { stackOverflow := true }, { stackUnderflow := true }],
      let q : State := { ptrs with pending := p }
      Examining q ∧ q.cfg.trapEntry = .modelled ∧ q.seq.count = 0 ∧
      (q.pending.nmi || q.pending.stackOverflow || q.pending.stackUnderflow) = true ∧ q.mem.wf = true ∧
      EntryRoom q) ∧
    (∀ p ∈ [({ stackOverflow := true } : Pending), { stackUnderflow := true }, { nmi := true }],
      let q : State := { faulting with pending := p }
      q.pending.reset = false ∧ q.runState = .running ∧ watchdogResets q = false ∧ q.cfg.trapEntry = .fault ∧
      q.seq.count = 0) := by
  unfold EntryRoom StackRoom Examining; decide

theorem test_witness_SequenceLock :
    let s : State := { ptrs with seq := { count := 1 } }
    let p : Pending := { nmi := true, irqs := [⟨0x20, 15⟩], pec := [⟨[(0x2000, 1)]⟩] }
    Examining s ∧ s.cfg.trapEntry = .modelled ∧ s.seq.count ≠ 0 ∧ p.reset = false ∧ p.wdtOverflow = false ∧
      p.classB = none := by
  unfold Examining; decide

/-- `ptrs` with a PSW and an interrupt request of a level. -/
def asked (psw : Word) (level : BitVec 4) : State :=
  { ptrs with psw := psw, pending := { irqs := [⟨0x20, level⟩] } }

theorem test_asked (psw : Word) (level : BitVec 4) :
    Examining (asked psw level) ∧ (asked psw level).seq.count = 0 ∧ firstClassA (asked psw level).pending = none ∧
    (asked psw level).mem.wf = true ∧ CoreReg.psw ∉ (asked psw level).lastWrites ∧
    EntryRoom (asked psw level) ∧ (asked psw level).pending.pec = [] := by
  refine ⟨?_, rfl, rfl, (by decide : ptrs.mem.wf = true), List.not_mem_nil, ?_, rfl⟩
  · exact (by unfold Examining; decide : Examining ptrs)
  · exact (by unfold EntryRoom StackRoom; decide : EntryRoom ptrs)

/-- Taken: a level just above ILVL. -/
theorem test_witness_InterruptEntry :
    (∃ q ∈ (asked 0x4800 5).pending.irqs, ienOf ptrs.cfg.psw 0x4800 = true ∧ ilvlOf ptrs.cfg.psw 0x4800 < q.level) ∧
    (∃ q ∈ (asked 0xE800 15).pending.irqs, ienOf ptrs.cfg.psw 0xE800 = true ∧ ilvlOf ptrs.cfg.psw 0xE800 < q.level) :=
  ⟨⟨⟨0x20, 5⟩, List.mem_singleton.mpr rfl, by decide, by decide⟩,
    ⟨⟨0x20, 15⟩, List.mem_singleton.mpr rfl, by decide, by decide⟩⟩

/-- Not taken: a level equal to ILVL; IEN = 0. -/
theorem test_witness_InterruptEntry_waiting :
    (∀ q ∈ (asked 0x4800 4).pending.irqs, ienOf ptrs.cfg.psw 0x4800 = false ∨ q.level ≤ ilvlOf ptrs.cfg.psw 0x4800) ∧
    (∀ q ∈ (asked 0x0000 15).pending.irqs, ienOf ptrs.cfg.psw 0x0000 = false ∨ q.level ≤ ilvlOf ptrs.cfg.psw 0x0000) := by
  constructor
  · intro q hq
    rw [List.mem_singleton.mp hq]
    exact Or.inr (by decide)
  · exact fun q _ => Or.inl (by decide)

theorem test_witness_PecTransferEffect :
    let x : PecTransfer := ⟨[(0x2000, 1), (0xFEB0, 7), (0xFE10, 5), (0x2000, 3)]⟩
    ∀ s ∈ [ptrs, ownFile],
      let s : State := { s with pending := { pec := [x] } }
      Examining s ∧ s.seq.count = 0 ∧ firstClassA s.pending = none ∧ s.pending.irqs = [] ∧ s.pending.pec = x :: [] ∧
      s.mem.wf = true ∧ s.cp = s.cfg.resetValues.cp &&& 0xFFFE ∧
      x.cells = [(0x2000, 1), (0xFEB0, 7), (0xFE10, 5)] ++ (0x2000, 3) :: [] ∧ 2 ∉ x.cells.map Prod.fst ∧
      classify s.cfg (BitVec.ofNat 24 0x2000) = .ram ∧ inFile s.cfg (BitVec.ofNat 24 0x2000) = false ∧
      classify s.cfg (BitVec.ofNat 24 0xFEB0) = .platform ∧ classify s.cfg (BitVec.ofNat 24 0xFE10) = .core .cp := by
  unfold Examining; decide

theorem test_witness_TrapResult :
    (ptrs.mem.wf = true ∧ StackRoom (if ptrs.sgtdis then 2 else 3) ptrs) ∧
    (flat.mem.wf = true ∧ StackRoom (if flat.sgtdis then 2 else 3) flat) := by
  unfold StackRoom; decide

theorem test_witness_RetiResult :
    (let s : State := { ptrs with sp := 0xFDFA }
     s.sgtdis = false ∧ StackHolds 3 s ∧ (stackWord 2 s).getLsbD 5 = false) ∧
    (let s : State := { start 0 [(0xFBFE, 0x0020)] with sp := 0xFBFA }
     s.sgtdis = false ∧ StackHolds 3 s ∧ (stackWord 2 s).getLsbD 5 = true) ∧
    (let s : State := { flat with sp := 0xFDFC }
     s.sgtdis = true ∧ StackHolds 2 s ∧ (stackWord 1 s).getLsbD 5 = false) ∧
    (let s : State := { start 0 [(0xFBFE, 0x0020)] with sp := 0xFBFC, syscon := 0x0800 }
     s.sgtdis = true ∧ StackHolds 2 s ∧ (stackWord 1 s).getLsbD 5 = true) := by
  unfold StackHolds; decide

theorem test_witness_RetiResult_frames :
    (let s : State := { ptrs with sp := 0xFDFA, frames := [(0xFDFA, true)] }
     s.frames.find? (fun f => decide (f.1 = s.sp)) = some (s.sp, true) ∧ true ≠ s.sgtdis) ∧
    (let s : State := { ptrs with sp := 0xFDFA, frames := [(0xFDFA, false), (0xFE00, true)] }
     ∀ f ∈ s.frames, f.1 = s.sp → f.2 = s.sgtdis) := by
  refine ⟨by decide, ?_⟩
  intro s f hf h
  rcases List.mem_cons.mp hf with hf | hf
  · rw [hf]; exact (show false = ptrs.sgtdis by decide)
  · rw [List.mem_singleton.mp hf] at h
    exact absurd (show (0xFE00 : Word) = 0xFDFA from h) (by decide)

theorem test_witness_TrapThenReturn :
    (MachineInv ptrs ∧ StackRoom (if ptrs.sgtdis then 2 else 3) ptrs ∧
      ∃ u v, exec (.trap 0x10) ptrs = .next u ∧ exec .reti u = .next v) ∧
    (MachineInv flat ∧ StackRoom (if flat.sgtdis then 2 else 3) flat ∧
      ∃ u v, exec (.trap 0x7F) flat = .next u ∧ exec .reti u = .next v) :=
  ⟨⟨by unfold MachineInv; decide, by unfold StackRoom; decide, _, _, rfl, rfl⟩,
    ⟨by unfold MachineInv; decide, by unfold StackRoom; decide, _, _, rfl, rfl⟩⟩

theorem test_witness_HazardRule :
    (let s : State := { placeBytes 0 [0x2D, 0x02] ptrs with lastWrites := [.psw] }
     Quiet s ∧ fetchInstr s = .ok (.jmpr .z 2) ∧ s.cfg.hazards = .refuse ∧
       ∃ r ∈ s.lastWrites, usesCore r (.jmpr .z 2) s = true) ∧
    (let s : State := { placeBytes 0 [0xCC, 0x00] ptrs with lastWrites := [.psw] }
     Quiet s ∧ fetchInstr s = .ok .nop ∧ s.cfg.hazards = .refuse ∧ ∀ r ∈ s.lastWrites, usesCore r .nop s = false) ∧
    (let s : State := { placeBytes 0 [0x2D, 0x02] ptrs with lastWrites := [.psw], cfg := { hazards := .sequential } }
     Quiet s ∧ fetchInstr s = .ok (.jmpr .z 2) ∧ s.cfg.hazards = .sequential) ∧
    (∃ t, writeDstW 0x00FF10 0x0800 ptrs = .ok t) ∧ (∃ t, writeDstW 0x002000 1 ptrs = .ok t) ∧
    (∃ t, writeDstB 0x00FE10 1 ptrs = .ok t) ∧ (∃ t, push 1 ptrs = .ok t) ∧ (∃ v t, pop ptrs = .ok (v, t)) ∧
    (∃ t, (Loc.indDec 1).before .word ptrs = .ok t) ∧ (∃ t, (Loc.indInc 1).after .byte ptrs = .ok t) ∧
    (∃ t, enterTrap 2 0 (some 15) ptrs = .ok t) ∧ (∃ t, returnFromTrap ptrs = .ok t) :=
  ⟨⟨by unfold Quiet; decide, rfl, by decide, by decide⟩, ⟨by unfold Quiet; decide, rfl, by decide, by decide⟩,
    ⟨by unfold Quiet; decide, rfl, by decide⟩, ⟨_, rfl⟩, ⟨_, rfl⟩, ⟨_, rfl⟩, ⟨_, rfl⟩,
    ⟨_, _, rfl⟩, ⟨_, rfl⟩, ⟨_, rfl⟩, ⟨_, rfl⟩, ⟨_, rfl⟩⟩

theorem test_witness_AluWordResult :
    BankInRam ptrs ∧
    (aluWordForm (.addRwRw 1 3) = some (.add, .rw 1, .loc (.rw 3)) ∧
      accessStop .word (effAddr (.rw 1) .word ptrs) ptrs.cfg = none ∧
      sourceStop .word (.loc (.rw 3) : Src 16) ptrs = none ∧
      ∀ v, writeStop .word (effAddr (.rw 1) .word ptrs) v ptrs = none) ∧
    (aluWordForm (.xorMemReg 0x2000 0x07) = some (.xor, .mem 0x2000, .loc (.reg 0x07)) ∧
      accessStop .word (effAddr (.mem 0x2000) .word ptrs) ptrs.cfg = none ∧
      sourceStop .word (.loc (.reg 0x07) : Src 16) ptrs = none ∧
      ∀ v, writeStop .word (effAddr (.mem 0x2000) .word ptrs) v ptrs = none) ∧
    (aluWordForm (.cmpRwIndInc 3 1) = some (.cmp, .rw 3, .loc (.indInc 1)) ∧
      accessStop .word (effAddr (.rw 3) .word ptrs) ptrs.cfg = none ∧
      sourceStop .word (.loc (.indInc 1) : Src 16) ptrs = none) :=
  ⟨test_ptrs_bank, ⟨rfl, by decide, by decide, fun _ => rfl⟩, ⟨rfl, by decide, by decide, fun _ => rfl⟩,
    ⟨rfl, by decide, by decide⟩⟩

theorem test_witness_AluByteResult :
    BankInRam ptrs ∧
    (aluByteForm (.addbRbInd 1 2) = some (.add, .rb 1, .loc (.ind 2)) ∧
      accessStop .byte (effAddr (.rb 1) .byte ptrs) ptrs.cfg = none ∧
      sourceStop .byte (.loc (.ind 2) : Src 8) ptrs = none ∧
      ∀ v, writeStop .byte (effAddr (.rb 1) .byte ptrs) v ptrs = none) ∧
    (aluByteForm (.cmpbRegMem 0x07 0x2001) = some (.cmp, .reg 0x07, .loc (.mem 0x2001)) ∧
      accessStop .byte (effAddr (.reg 0x07) .byte ptrs) ptrs.cfg = none ∧
      sourceStop .byte (.loc (.mem 0x2001) : Src 8) ptrs = none) :=
  ⟨test_ptrs_bank, ⟨rfl, by decide, by decide, fun _ => rfl⟩, ⟨rfl, by decide, by decide⟩⟩

theorem test_witness_RegisterOnlyResult :
    BankInRam ptrs ∧ compareForm (.cmpi1RwData4 3 5) = some (1, 3, .imm 5) ∧
    compareForm (.cmpd2RwMem 3 0x2000) = some (-2, 3, .loc (.mem 0x2000)) ∧
    sourceStop .word (.imm 5 : Src 16) ptrs = none ∧ sourceStop .word (.loc (.mem 0x2000) : Src 16) ptrs = none :=
  ⟨test_ptrs_bank, rfl, rfl, by decide, by decide⟩

theorem test_witness_AddFlagsRule : (16 : Nat) = 16 ∧ (8 : Nat) = 8 := by decide

theorem test_witness_OddWordAccessTraps :
    BankInRam ptrs ∧
    (aluWordForm (.addMemReg 0x2001 0xF3) = some (.add, .mem 0x2001, .loc (.reg 0xF3)) ∧
      (effAddr (.mem 0x2001) .word ptrs).getLsbD 0 = true) ∧
    (aluWordForm (.addRwInd 1 2) = some (.add, .rw 1, .loc (.ind 2)) ∧
      accessStop .word (effAddr (.rw 1) .word ptrs) ptrs.cfg = none ∧
      (effAddr (.ind 2) .word ptrs).getLsbD 0 = true) ∧
    (moveWordForm (.movIndRw 2 3) = some (.ind 2, .loc (.rw 3)) ∧
      sourceStop .word (.loc (.rw 3) : Src 16) ptrs = none ∧ (effAddr (.ind 2) .word ptrs).getLsbD 0 = true) ∧
    (moveWordForm (.movRwInd 1 2) = some (.rw 1, .loc (.ind 2)) ∧ (effAddr (.ind 2) .word ptrs).getLsbD 0 = true) ∧
    (compareForm (.cmpi1RwMem 3 0x2001) = some (1, 3, .loc (.mem 0x2001)) ∧ (dataAddr 0x2001 ptrs).getLsbD 0 = true) ∧
    (extendForm (.movbsMemReg 0x2001 0xF2) = some (.sign, .mem 0x2001, .loc (.reg 0xF2)) ∧
      sourceStop .byte (.loc (.reg 0xF2) : Src 8) ptrs = none ∧ (effAddr (.mem 0x2001) .word ptrs).getLsbD 0 = true) ∧
    accessStop .word (regAddr 0x08 .word ptrs) ptrs.cfg = none :=
  ⟨test_ptrs_bank, ⟨rfl, by decide⟩, ⟨rfl, by decide, by decide⟩, ⟨rfl, by decide, by decide⟩, ⟨rfl, by decide⟩,
    ⟨rfl, by decide⟩, ⟨rfl, by decide, by decide⟩, by decide⟩

theorem test_witness_AluFrame :
    BankInRam ptrs ∧ (∃ t, exec (.addRwIndInc 3 1) ptrs = .next t) ∧ (∃ t, exec (.cmpRwRw 1 2) ptrs = .next t) ∧
    (∃ t, exec (.orbMemReg 0x2001 0x07) ptrs = .next t) ∧ (aluWordForm (.addRwIndInc 3 1)).isSome = true ∧
    (aluWordForm (.cmpRwRw 1 2)).isSome = true ∧ (aluByteForm (.orbMemReg 0x2001 0x07)).isSome = true :=
  ⟨test_ptrs_bank, ⟨_, rfl⟩, ⟨_, rfl⟩, ⟨_, rfl⟩, rfl, rfl, rfl⟩

theorem test_witness_ShiftResult :
    BankInRam ptrs ∧ shiftForm (.rolRwRw 1 3) = some (.rol, 1, .loc (.rw 3)) ∧
    shiftForm (.ashrRwData4 1 15) = some (.ashr, 1, .imm 15) :=
  ⟨test_ptrs_bank, rfl, rfl⟩

theorem test_witness_ShiftValues : 0 < 16 ∧ 15 < 16 ∧ (1 : Word) ≠ 0 ∧ (0x8000 : Word) ≠ 0 := by decide

theorem test_witness_BitResult :
    accessStop .word (bitWordAddr 0xF3 ptrs) ptrs.cfg = none ∧
    accessStop .word (bitWordAddr 0x88 ptrs) ptrs.cfg = none ∧
    accessStop .word (bitWordAddr 0x7F ptrs) ptrs.cfg = none ∧
    (∀ v, writeStop .word (bitWordAddr 0xF3 ptrs) v ptrs = none) ∧
    writeStop .word (bitWordAddr 0x88 ptrs) 0x0800 ptrs = none :=
  ⟨by decide, by decide, by decide, fun _ => rfl, by decide⟩

theorem test_witness_RegisterFrame :
    BankInRam ptrs ∧
    (∀ i ∈ [Instr.cmpi1RwMem 3 0x2000, .shlRwRw 1 3, .priorRwRw 1 3, .neg 1, .cpl 1, .negb 1, .cplb 1,
        .bfldl 0xF1 1 1, .bfldh 0xF1 1 1, .bclr ⟨0xF1, 3⟩, .bset ⟨0xF1, 3⟩, .bcmp ⟨0xF1, 3⟩ ⟨0xF3, 1⟩,
        .band ⟨0xF1, 3⟩ ⟨0xF3, 1⟩, .bor ⟨0xF1, 3⟩ ⟨0xF3, 1⟩, .bxor ⟨0xF1, 3⟩ ⟨0xF3, 1⟩, .bmov ⟨0xF1, 3⟩ ⟨0xF3, 1⟩,
        .bmovn ⟨0xF1, 3⟩ ⟨0xF3, 1⟩],
      (match exec i ptrs with
       | .next _ => true
       | _ => false) = true) ∧
    (compareForm (.cmpi1RwMem 3 0x2000)).isSome = true ∧ (shiftForm (.shlRwRw 1 3)).isSome = true :=
  ⟨test_ptrs_bank, by decide, rfl, rfl⟩

theorem test_witness_MoveWordResult :
    BankInRam ptrs ∧
    (moveWordForm (.movRegData16 0x09 0x8000) = some (.reg 0x09, .imm 0x8000) ∧
      sourceStop .word (.imm 0x8000 : Src 16) ptrs = none ∧
      writeStop .word (effAddr (.reg 0x09) .word ptrs) 0x8000 ptrs = none) ∧
    (moveWordForm (.movIndIncInd 1 1) = some (.indInc 1, .loc (.ind 1)) ∧
      sourceStop .word (.loc (.ind 1) : Src 16) ptrs = none ∧
      (∀ v, writeStop .word (effAddr (.indInc 1) .word ptrs) v ptrs = none) ∧
      (let src : Src 16 := .loc (.ind 1)
       let pa := effAddr (.indInc 1) .word ptrs
       let v := (sourceW src ptrs).1
       BankInRam (putW pa v (decremented (.indInc 1) .word (sourceW src ptrs).2)))) ∧
    (moveWordForm (.movRegData16 0x88 0x0800) = some (.reg 0x88, .imm 0x0800) ∧
      classify ptrs.cfg (effAddr (.reg 0x88) .word ptrs) = .core .psw ∧
      writeStop .word (effAddr (.reg 0x88) .word ptrs) 0x0800 ptrs = none) :=
  ⟨test_ptrs_bank, ⟨rfl, by decide, by decide⟩, ⟨rfl, by decide, fun _ => rfl, by unfold BankInRam; decide⟩,
    rfl, by decide, by decide⟩

theorem test_witness_MoveByteResult :
    BankInRam ptrs ∧
    (moveByteForm (.movbIndDecRb 2 5) = some (.indDec 2, .loc (.rb 5)) ∧
      sourceStop .byte (.loc (.rb 5) : Src 8) ptrs = none ∧
      ∀ v, writeStop .byte (effAddr (.indDec 2) .byte ptrs) v ptrs = none) ∧
    (moveByteForm (.movbIndIncInd 1 2) = some (.indInc 1, .loc (.ind 2)) ∧
      sourceStop .byte (.loc (.ind 2) : Src 8) ptrs = none ∧
      (∀ v, writeStop .byte (effAddr (.indInc 1) .byte ptrs) v ptrs = none) ∧
      (let src : Src 8 := .loc (.ind 2)
       let pa := effAddr (.indInc 1) .byte ptrs
       let v := (sourceB src ptrs).1
       BankInRam (putB pa v (decremented (.indInc 1) .byte (sourceB src ptrs).2)))) ∧
    (extendForm (.movbsMemReg 0x2000 0xF2) = some (.sign, .mem 0x2000, .loc (.reg 0xF2)) ∧
      sourceStop .byte (.loc (.reg 0xF2) : Src 8) ptrs = none ∧
      ∀ v, writeStop .word (effAddr (.mem 0x2000) .word ptrs) v ptrs = none) :=
  ⟨test_ptrs_bank, ⟨rfl, by decide, fun _ => rfl⟩, ⟨rfl, by decide, fun _ => rfl, by unfold BankInRam; decide⟩,
    rfl, by decide, fun _ => rfl⟩

theorem test_witness_MoveFrame :
    BankInRam ptrs ∧ (∃ t, exec (.movIndIncInd 1 1) ptrs = .next t) ∧ (∃ t, exec (.movbIndDecRb 2 5) ptrs = .next t) ∧
    (∃ t, exec (.movbsRwRb 1 2) ptrs = .next t) ∧ (moveWordForm (.movIndIncInd 1 1)).isSome = true ∧
    (moveByteForm (.movbIndDecRb 2 5)).isSome = true ∧ (extendForm (.movbsRwRb 1 2)).isSome = true ∧
    classify ptrs.cfg (effAddr (.indInc 1) .word ptrs) ≠ .core .cp :=
  ⟨test_ptrs_bank, ⟨_, rfl⟩, ⟨_, rfl⟩, ⟨_, rfl⟩, rfl, rfl, rfl, by decide⟩

theorem test_witness_StackMoveResult :
    accessStop .word (regAddr 0x09 .word ptrs) ptrs.cfg = none ∧ (∀ v, pushStop v ptrs = none) ∧ popStop ptrs = none ∧
    (∀ v, writeStop .word (regAddr 0xF1 .word ptrs) v ptrs = none) ∧
    writeStop .word (regAddr 0x09 .word ptrs) (popped ptrs).1 ptrs = none ∧
    sourceStop .word (.loc (.mem 0x2000) : Src 16) ptrs = none ∧
    (let ra := regAddr 0x08 .word ptrs
     let p := pushed (loadedW ra ptrs).1 (sourceW (.imm 0xFB00) (loadedW ra ptrs).2).2
     accessStop .word ra ptrs.cfg = none ∧ writeStop .word (regAddr 0x08 .word p) 0xFB00 p = none) :=
  ⟨by decide, fun _ => rfl, by decide, fun _ => rfl, by decide, by decide, by decide, by decide⟩

theorem test_witness_PushPopEffect :
    ptrs.mem.wf = true ∧ StackRoom 1 ptrs ∧ StackHolds 1 ptrs ∧ StackHolds 1 { ptrs with sp := 0xFDFE } := by
  unfold StackRoom StackHolds; decide

theorem test_witness_PushFrame :
    BankInRam ptrs ∧ StackRoom 3 ptrs ∧
    (∀ i ∈ [Instr.push 0xF1, .calla .uc 0, .calli .uc 1, .callr 0, .calls 1 0, .pcall 0xF1 0, .trap 0x10],
      ∃ t, exec i ptrs = .next t ∧ ¬ trapped ptrs t) := by
  refine ⟨test_ptrs_bank, by unfold StackRoom; decide, ?_⟩
  intro i hi
  fin_cases hi <;> exact ⟨_, rfl, test_not_trapped rfl⟩

theorem test_witness_JumpResult : BankInRam ptrs := test_ptrs_bank

theorem test_witness_BitJumpResult :
    accessStop .word (bitWordAddr 0xF1 ptrs) ptrs.cfg = none ∧
    (∀ v, writeStop .word (bitWordAddr 0xF1 ptrs) v ptrs = none) ∧
    bitAt (loadedW (bitWordAddr 0xF1 ptrs) ptrs).1 13 = true ∧
    bitAt (loadedW (bitWordAddr 0xF1 ptrs) ptrs).1 0 = false ∧ ptrs.cfg.bitJumpEvc = .cleared ∧
    (let s : State := { ptrs with cfg := { bitJumpEvc := .unchanged } }
     accessStop .word (bitWordAddr 0xF1 s) s.cfg = none ∧ s.cfg.bitJumpEvc = .unchanged) :=
  ⟨by decide, fun _ => rfl, by decide, by decide, by decide, by decide, by decide⟩

theorem test_witness_CallResult :
    BankInRam ptrs ∧ condHolds ptrs.flags .z = false ∧ condHolds ptrs.flags .uc = true ∧ (∀ v, pushStop v ptrs = none) ∧
    pushStop (ptrs.ip + 4) (pushed ptrs.csp ptrs) = none ∧
    accessStop .word (regAddr 0xF1 .word ptrs) ptrs.cfg = none := by
  exact ⟨test_ptrs_bank, by decide, by decide, fun _ => rfl, by decide, by decide⟩

theorem test_witness_ReturnResult :
    popStop ptrs = none ∧ popStop (popped ptrs).2 = none ∧
    writeStop .word (regAddr 0x09 .word ptrs) (popped (popped ptrs).2).1 ptrs = none := by decide

theorem test_witness_SequenceResult :
    BankInRam ptrs ∧ ptrs.seq.count = 0 ∧ ({ ptrs with seq := { count := 4 } } : State).seq.count ≠ 0 :=
  ⟨test_ptrs_bank, by decide, by decide⟩

theorem test_witness_SystemResult :
    ptrs.seq.count = 0 ∧ ({ ptrs with seq := { count := 1 } } : State).seq.count ≠ 0 := by decide

theorem test_witness_MultiplyResult : BankInRam ptrs := test_ptrs_bank

theorem test_witness_DivideResult :
    (let s : State := { ptrs with mdl := 0xFFF9 }
     BankInRam s ∧ quotSigned16 s.mdh s.mdl (gprWord 3 s) = some (0xFFFD, 0xFFFF)) ∧
    (quotSigned16 ptrs.mdh ptrs.mdl (gprWord 4 ptrs) = none ∧ quotUnsigned16 ptrs.mdh ptrs.mdl (gprWord 4 ptrs) = none ∧
      quotSigned32 ptrs.mdh ptrs.mdl (gprWord 4 ptrs) = none ∧
      quotUnsigned32 ptrs.mdh ptrs.mdl (gprWord 4 ptrs) = none) ∧
    (quotSigned32 1 0 2 = none ∧ quotSigned32 0 0xFFFF 2 = some (0x7FFF, 1) ∧
      quotUnsigned16 0 0xFFF9 2 = some (0x7FFC, 1) ∧
      quotUnsigned32 1 0 2 = some (0x8000, 0)) ∧
    (let s : State := { ptrs with mdl := 0xFFF9, cfg := { divRounding := .draw } }
     BankInRam s ∧ quotSigned16 s.mdh s.mdl (gprWord 3 s) ≠ none ∧ s.cfg.divRounding = .draw ∧
       s.mdl.toInt * (gprWord 3 s).toInt < 0 ∧ ¬ (gprWord 3 s).toInt ∣ s.mdl.toInt) := by
  refine ⟨⟨by unfold BankInRam; decide, by decide⟩, by decide, by decide, by unfold BankInRam; decide, by decide, by decide,
    by decide, by decide⟩

theorem test_witness_DivideValues :
    quotSigned16 0 0x8000 0xFFFF = none ∧ quotSigned16 0 0x8000 1 = some (0x8000, 0) ∧
    quotSigned32 0xFFFF 0x0000 2 = some (0x8000, 0) ∧ quotSigned32 0xFFFE 0xFFFE 2 = none ∧
    quotSigned32 0x0001 0x0000 2 = none ∧ quotSigned32 0x0000 0xFFFF 2 = some (0x7FFF, 1) ∧
    quotUnsigned32 2 0 2 = none ∧ quotUnsigned32 1 0xFFFF 2 = some (0xFFFF, 1) := by decide

theorem test_witness_AccessStops :
    (0x002001 : PhysAddr).getLsbD 0 = true ∧ (0x002000 : PhysAddr).getLsbD 0 = false ∧
    classify ptrs.cfg 0x040000 = .absent ∧ classify ptrs.cfg 0x03FFFE = .ram ∧ classify withRom.cfg 0x040000 = .rom ∧
    classify ptrs.cfg 0x00F000 = .platform ∧ classify ptrs.cfg 0x00FE08 = .core .csp ∧
    classify ptrs.cfg 0x00FF12 = .core .syscon ∧ classify ptrs.cfg 0x00FF10 = .core .psw ∧
    (0x0020 : Word).getLsbD 5 = true ∧ (0x0800 : Word).getLsbD 5 = false ∧
    ({ ptrs with initDone := true } : State).initDone = true ∧ ptrs.initDone = false ∧
    classify ptrs.cfg 0x00FE12 = .core .sp ∧ classify ptrs.cfg 0x00FE13 = .core .sp ∧
    classify ptrs.cfg 0x040001 = .absent ∧ classify ptrs.cfg 0x03FFFF = .ram ∧
    classify ptrs.cfg 0x00F001 = .platform ∧ classify withRom.cfg 0x040001 = .rom := by decide

theorem test_witness_RamAccess :
    ptrs.mem.wf = true ∧ classify ptrs.cfg 0x00FDFE = .ram ∧ classify ptrs.cfg 0x03FFFF = .ram ∧
    (∃ t, memWriteW 0x00FDFE 0x1234 ptrs = .ok t) ∧ (∃ t, memWriteB 0x03FFFF 0x12 ptrs = .ok t) :=
  ⟨by decide, by decide, by decide, ⟨_, rfl⟩, ⟨_, rfl⟩⟩

theorem test_witness_CoreRegisterAccess :
    (∀ r ∈ [CoreReg.cp, .sp, .stkov, .stkun, .dpp 0, .dpp 3, .zeros, .ones, .mdl, .mdh, .mdc, .tfr, .wdtcon, .syscon],
      (match storeCore r 0xFFFF ptrs with
       | .ok _ => true
       | .error _ => false) = true) ∧
    (∃ t, storeCore .psw 0xFFDF ptrs = .ok t) ∧ (∃ t, storeCore .wdt 1 ptrs = .ok t) ∧
    classify ptrs.cfg 0x00FE13 = .core .sp ∧ (∃ t, memWriteB 0x00FE12 0x34 ptrs = .ok t) ∧
    (∃ t, memWriteB 0x00FE13 0x12 ptrs = .ok t) ∧ ptrs.wdtExact = true ∧
    ({ ptrs with wdtExact := false } : State).wdtExact = false ∧ ptrs.cfg.wdtRate = none ∧ counting.cfg.wdtRate ≠ none ∧
    ({} : PswLayout).wf = true ∧ ({ n := 15, ilvl := 11, ien := 0 } : PswLayout).wf = true :=
  ⟨by decide, ⟨_, rfl⟩, ⟨_, rfl⟩, by decide, ⟨_, rfl⟩, ⟨_, rfl⟩, by decide, by decide, by decide, by decide, by decide,
    by decide⟩

theorem test_witness_RegisterOperands :
    let s : State := { ptrs with cp := 0xFFE0 }
    s.cp.toNat + 31 < 65536 ∧ (regAddr 0xEF .word s).toNat = 0xFFDE ∧ (regAddr 0xFF .word s).toNat = 0xFFFE ∧
    (regAddr 0xF0 .byte s).toNat = 0xFFE0 ∧ (bitWordAddr 0x7F s).toNat = 0xFDFE ∧ (bitWordAddr 0x80 s).toNat = 0xFF00 ∧
    (bitWordAddr 0xEF { s with seq := { count := 1, esfr := true } }).toNat = 0xF1DE ∧
    s.cfg.bases = {} ∧ s.cfg.sfrMap = defaultSfrMap ∧ inFile s.cfg (BitVec.ofNat 24 0xFF10) = false ∧
    inFile ownFile.cfg (BitVec.ofNat 24 0xFF10) = false ∧ inFile ownFile.cfg (BitVec.ofNat 24 0xFC00) = true ∧
    inFile ownFile.cfg (BitVec.ofNat 24 0xFC20) = false ∧ inFile ownFile.cfg (BitVec.ofNat 24 0xFBFF) = false ∧
    classify s.cfg (BitVec.ofNat 24 (0xFE00 + 2 * 0x88)) = .core .psw ∧
    classify s.cfg (BitVec.ofNat 24 0xF1FF) = .platform ∧
    classify { s.cfg with device := { hasExt := false } } (BitVec.ofNat 24 0xF1FF) = .ram := by decide

end Sys2Proof.Tests
end

section
/-! SUPPORT. What one step can do, said once (00_scope.md R13), and a property the basic updates keep carried through the
whole step. -/

namespace Sys2Proof.Machine

/-! ## When the parts of a step answer -/

/-- A changed outcome is a next state when the outcome was one. -/
theorem mapNext_next {f : State → State} {r : StepOutcome} {t : State} :
    mapNext f r = .next t ↔ ∃ u, r = .next u ∧ f u = t := by
  cases r <;> simp [mapNext]

/-- A raised class B event answers when its parameter raises it and traps are entered. -/
theorem raiseClassB_next {e : ClassB} {s t : State} :
    raiseClassB e s = .next t ↔
      e.treatment s.cfg = .raise ∧ s.cfg.trapEntry = .modelled ∧ s.requestClassB e = t := by
  unfold raiseClassB
  cases e.treatment s.cfg <;> cases s.cfg.trapEntry <;> simp

/-- The guard of CP lets a next state through unchanged, or refuses it. -/
theorem refuseCpWrite_next {s t : State} {r : StepOutcome} :
    refuseCpWrite s r = .next t ↔
      r = .next t ∧ ¬ (s.cfg.gprModel = .abstractFile ∧ (.cp ∈ t.lastWrites ∨ t.cp ≠ s.cp)) := by
  cases r with
  | next u =>
    by_cases hg : s.cfg.gprModel = .abstractFile ∧ (.cp ∈ u.lastWrites ∨ u.cp ≠ s.cp)
    · simp only [refuseCpWrite, if_pos hg, reduceCtorEq, false_iff, Host.Outcome.next.injEq]
      rintro ⟨rfl, hn⟩
      exact hn hg
    · simp only [refuseCpWrite, if_neg hg, Host.Outcome.next.injEq]
      constructor
      · rintro rfl
        exact ⟨rfl, hg⟩
      · exact And.left
  | fault e => simp [refuseCpWrite]
  | refused e => simp [refuseCpWrite]

/-- The guard of an event lets a next state through unchanged: its frame does not lie on the bank and CP has stayed. -/
theorem guardEntry_next {s t : State} {r : StepOutcome} (h : guardEntry s r = .next t) :
    r = .next t ∧ fileStop (belowSp ((s.sp - t.sp).toNat / 2) s) s = none ∧
      ¬ (s.cfg.gprModel = .abstractFile ∧ t.cp ≠ s.cp) := by
  cases r with
  | next u =>
    simp only [guardEntry] at h
    split at h
    · cases h
    · rename_i hf
      split at h
      · cases h
      · rename_i hg
        cases h
        exact ⟨rfl, hf, hg⟩
  | fault e => cases h
  | refused e => cases h

/-- An instruction that runs under the setting of `GPR_MODEL` is one that `exec` answers and neither guard refuses. -/
theorem runInstr_next {i : Instr} {s t : State} :
    runInstr i s = .next t ↔
      fileStop (reached i s) s = none ∧ exec i { s with lastWrites := [] } = .next t ∧
        ¬ (s.cfg.gprModel = .abstractFile ∧ (.cp ∈ t.lastWrites ∨ t.cp ≠ s.cp)) := by
  unfold runInstr
  cases fileStop (reached i s) s <;> simp [refuseCpWrite_next]

/-- The fetch and what it leads to: a class B event requested, or an instruction run. -/
theorem runNext_next {s t : State} (h : runNext s = .next t) :
    (∃ e, fetchInstr s = .error (.trap e) ∧ e.treatment s.cfg = .raise ∧ s.cfg.trapEntry = .modelled ∧
      t = endStep (({ s with lastWrites := [] } : State).requestClassB e)) ∨
    (∃ i u, fetchInstr s = .ok i ∧ hazard i s = none ∧ runInstr i s = .next u ∧ t = afterInstr i u) := by
  unfold runNext at h
  split at h
  · cases h
  · rename_i e he
    obtain ⟨u, hu, rfl⟩ := mapNext_next.1 h
    obtain ⟨hraise, hmodelled, rfl⟩ := raiseClassB_next.1 hu
    exact .inl ⟨e, he, hraise, hmodelled, rfl⟩
  · rename_i i hi
    split at h
    · cases h
    · rename_i hz
      obtain ⟨u, hu, rfl⟩ := mapNext_next.1 h
      exact .inr ⟨i, u, hi, hz, hu, rfl⟩

/-- The PSW an interrupt request meets is taken from the same state, or by the draw of R460's row PSW. -/
theorem pswForInterrupt_state (s : State) :
    (pswForInterrupt s).2 = s ∨ (pswForInterrupt s).2 = s.drawBit.2 := by
  unfold pswForInterrupt
  split
  · exact .inr rfl
  · exact .inl rfl

/-- What an examination outside a sequence goes on from, and what it takes. -/
theorem examineUnlocked_cases (s : State) :
    ((examineUnlocked s).1 = s ∨ (examineUnlocked s).1 = s.drawBit.2) ∧
    ∀ t, (examineUnlocked s).2 = some (.next t) →
      (∃ a, finish (examineUnlocked s).1 (enterClassA a (examineUnlocked s).1) = .next t) ∨
      (∃ r, finish (examineUnlocked s).1 (enterInterrupt r (examineUnlocked s).1) = .next t) ∨
      (∃ x rest, t = servePec x rest (examineUnlocked s).1) := by
  unfold examineUnlocked
  split
  · rename_i a _
    refine ⟨.inl rfl, fun t ht => .inl ⟨a, ?_⟩⟩
    simp only [Option.some.injEq] at ht
    split at ht
    · cases ht
    · exact ht
  · have hstate := pswForInterrupt_state s
    generalize pswForInterrupt s = x at hstate ⊢
    obtain ⟨psw, u⟩ := x
    dsimp only at hstate ⊢
    split
    · rename_i r _
      refine ⟨hstate, fun t ht => .inr (.inl ⟨r, ?_⟩)⟩
      simpa using ht
    · split
      · rename_i x rest _
        refine ⟨hstate, fun t ht => .inr (.inr ⟨x, rest, ?_⟩)⟩
        simpa using ht.symm
      · exact ⟨hstate, fun t ht => by cases ht⟩

/-- What an examination goes on from, and what it takes: a class B or class A request or an interrupt entered, or a PEC
request served (60_exceptions.md R405). -/
theorem examine_cases (s : State) :
    ((examine s).1 = s ∨ (examine s).1 = s.drawBit.2) ∧
    ∀ t, (examine s).2 = some (.next t) →
      (∃ x, finish (examine s).1 (enterClassB x (examine s).1) = .next t) ∨
      (∃ a, finish (examine s).1 (enterClassA a (examine s).1) = .next t) ∨
      (∃ r, finish (examine s).1 (enterInterrupt r (examine s).1) = .next t) ∨
      (∃ x rest, t = servePec x rest (examine s).1) := by
  unfold examine
  split
  · rename_i x _
    exact ⟨.inl rfl, fun t ht => .inl ⟨x, by simpa using ht⟩⟩
  · split
    · exact ⟨.inl rfl, fun t ht => by cases ht⟩
    · split
      · obtain ⟨hstate, htaken⟩ := examineUnlocked_cases s
        exact ⟨hstate, fun t ht => .inr (htaken t ht)⟩
      · exact ⟨.inl rfl, fun t ht => by cases ht⟩

/-- Items 2 to 7 of R13: an event taken, or the fetch. -/
theorem runOrTake_next {s t : State} (h : runOrTake s = .next t) :
    (∃ u, (examine s).2 = some (.next u) ∧ guardEntry (examine s).1 (.next u) = .next u ∧ t = endStep u) ∨
    ((examine s).2 = none ∧ runNext (examine s).1 = .next t) := by
  unfold runOrTake at h
  split at h
  · rename_i u r he
    obtain ⟨v, hv, rfl⟩ := mapNext_next.1 h
    obtain ⟨rfl, -, -⟩ := guardEntry_next hv
    exact .inl ⟨v, by rw [he], by rw [he]; exact hv, rfl⟩
  · rename_i u he
    exact .inr ⟨by rw [he], by rw [he]; exact h⟩

/-- One step: a reset, nothing in power-down, the watchdog's count in idle, or the rest, woken or running. -/
theorem step_next {s t : State} (h : step s = .next t) :
    (∃ c, t = s.resetBy c) ∨ (s.runState = .powerDown ∧ t = s) ∨ (s.runState = .idle ∧ t = s.tick) ∨
    runOrTake { s with runState := .running } = .next t := by
  unfold step at h
  split at h
  · cases h
    exact .inl ⟨_, rfl⟩
  · split at h
    · rename_i hp
      cases h
      exact .inr (.inl ⟨hp, rfl⟩)
    · rename_i hp
      unfold stepPowered at h
      split at h
      · cases h
        exact .inl ⟨_, rfl⟩
      · split at h
        · rename_i hi
          split at h
          · exact .inr (.inr (.inr h))
          · cases h
            exact .inr (.inr (.inl ⟨hi, rfl⟩))
        · rename_i hi
          have hr : s.runState = .running := by
            cases hs : s.runState with
            | running => rfl
            | idle => exact absurd hs hi
            | powerDown => exact absurd hs hp
          rw [← hr]
          exact .inr (.inr (.inr h))

/-! ## A step of a machine to which nothing is due -/

/-- With no request that can be taken the examination goes on from the same state. -/
theorem examine_quiet {s : State} (hq : Quiet s) : examine s = (s, none) := by
  obtain ⟨-, -, -, hclassB, hlimit, hunlocked⟩ := hq
  unfold examine
  simp only [hclassB, hlimit]
  split
  · rename_i hc
    obtain ⟨hclassA, hpec, hirqs⟩ := hunlocked hc
    have hpsw : pswForInterrupt s = (s.psw, s) := by
      unfold pswForInterrupt
      refine if_neg ?_
      rintro ⟨hh, hw, hne⟩
      rcases hirqs with hnil | ⟨-, hseq | hnot⟩
      · exact hne hnil
      · rw [hh] at hseq
        cases hseq
      · exact hnot hw
    have hnone : s.pending.irqs.filter (fun r => r.acceptable s.cfg.psw s.psw) = [] := by
      rcases hirqs with hnil | ⟨hall, -⟩
      · rw [hnil]
        rfl
      · exact List.filter_eq_nil_iff.2 fun r hr => by simp [hall r hr]
    simp only [examineUnlocked, hclassA, hpsw, hnone, highestIrq, hpec]
  · rfl

/-- With nothing due the step is the fetch and what it leads to. -/
theorem step_quiet {s : State} (hq : Quiet s) : step s = runNext s := by
  have hexamine := examine_quiet hq
  obtain ⟨hreset, hrun, hwatchdog, -⟩ := hq
  simp [step, hreset, stepPowered, hrun, hwatchdog, runOrTake, hexamine]

/-- Fetched bytes of an instruction that the device has are that instruction. -/
theorem fetchInstr_decoded {s : State} {bytes : List Byte} {i : Instr} {rest : List Byte} (heven : s.ip.getLsbD 0 = false)
    (hbytes : fetchBytes s = .ok bytes) (hdecode : decode bytes = .instr i rest) (hwf : i.wf s.cfg.device = true) :
    fetchInstr s = .ok i := by
  unfold fetchInstr
  rw [heven]
  simp [hbytes, bind, Except.bind, instrOf, hdecode, hwf]

/-- With an instruction fetched and free of a hazard, the fetch leads to running it. -/
theorem runNext_instr {s : State} {i : Instr} (hfetch : fetchInstr s = .ok i) (hhazard : hazard i s = none) :
    runNext s = mapNext (afterInstr i) (runInstr i s) := by
  simp [runNext, hfetch, hhazard]

/-! ## A property the basic updates keep -/

/-- The property is kept by every update a step is made of. -/
structure StableStep (P : State → Prop) : Prop extends StableExec P where
  reset : ∀ s c, P s → P (s.resetBy c)
  wake : ∀ s, P s → P { s with runState := .running }
  pending : ∀ s p, P s → P { s with pending := p }
  trapFlags : ∀ s v, P s → P { s with tfr := v }
  breakSequence : ∀ s, P s → P { s with seq := {} }
  countDown : ∀ s, P s → P { s with seq := countDown s.seq }
  watchdog : ∀ s v b, P s → P { s with wdt := v, wdtExact := b }

variable {P : State → Prop}

theorem tick_keeps (hP : StableStep P) (s : State) (hs : P s) : P s.tick := by
  unfold State.tick
  split
  · exact hs
  · split
    · rename_i rate _ _
      have hcount : P { s with wdt := s.wdt + BitVec.ofNat 16 rate } := hP.watchdog s _ s.wdtExact hs
      exact hP.pending _ _ hcount
    · exact hs

theorem endStep_keeps (hP : StableStep P) (s : State) (hs : P s) : P (endStep s) :=
  have hexact : P { s with wdtExact := false } := hP.watchdog s s.wdt false hs
  tick_keeps hP _ (hP.note _ s.lastWrites s.psw hexact)

theorem afterInstr_keeps (hP : StableStep P) (i : Instr) (s : State) (hs : P s) : P (afterInstr i s) := by
  unfold afterInstr
  split
  · exact hs
  · have hseq : P { s with seq := if startsSequence i then s.seq else countDown s.seq } := by
      split
      · exact hs
      · exact hP.countDown s hs
    exact tick_keeps hP _ (hP.watchdog _ s.wdt _ hseq)

theorem noteTrap_keeps (hP : StableStep P) (s : State) (flag : Word) (hs : P s) : P (s.noteTrap flag) := by
  unfold State.noteTrap
  split
  · exact hs
  · exact hP.trapFlags s _ hs

theorem enterClassB_keeps (hP : StableStep P) {x : ClassBRequest} {s t : State} (h : enterClassB x s = .ok t)
    (hs : P s) : P t :=
  enterTrap_keeps hP.toStableFar h (hP.pending _ _ (hP.breakSequence s hs))

theorem enterClassA_keeps (hP : StableStep P) {a : ClassA} {s t : State} (h : enterClassA a s = .ok t) (hs : P s) :
    P t := by
  refine enterTrap_keeps hP.toStableFar h ?_
  cases a with
  | nmi => exact hP.pending _ _ (noteTrap_keeps hP s _ hs)
  | stackOverflow => exact hP.pending s _ hs
  | stackUnderflow => exact hP.pending s _ hs

theorem enterInterrupt_keeps (hP : StableStep P) {r : IrqRequest} {s t : State} (h : enterInterrupt r s = .ok t)
    (hs : P s) : P t :=
  enterTrap_keeps hP.toStableFar h (hP.pending s _ hs)

theorem pecStore_keeps (hP : StableStep P) (s : State) (c : Host.Cell) (hs : P s) : P (pecStore s c) := by
  unfold pecStore
  split
  · rename_i hc
    split
    · split
      · exact hs
      · exact hP.store s _ _ hc hs
    · exact hP.drive s _ _ hc hs
    · exact hs
  · exact hs

theorem servePec_keeps (hP : StableStep P) (x : PecTransfer) (rest : List PecTransfer) (s : State) (hs : P s) :
    P (servePec x rest s) :=
  hP.pending _ _ (List.foldlRecOn x.cells pecStore hs fun u hu c _ => pecStore_keeps hP u c hu)

theorem examine_keeps (hP : StableStep P) {s : State} (hs : P s) :
    P (examine s).1 ∧ ∀ t, (examine s).2 = some (.next t) → P t := by
  obtain ⟨hstate, htaken⟩ := examine_cases s
  have hU : P (examine s).1 := by
    rcases hstate with h | h <;> rw [h]
    · exact hs
    · exact hP.draws s _ hs
  refine ⟨hU, fun t ht => ?_⟩
  rcases htaken t ht with ⟨x, h⟩ | ⟨a, h⟩ | ⟨r, h⟩ | ⟨x, rest, rfl⟩
  · exact finish_keeps hP.raise h hU fun _ hu => enterClassB_keeps hP hu hU
  · exact finish_keeps hP.raise h hU fun _ hu => enterClassA_keeps hP hu hU
  · exact finish_keeps hP.raise h hU fun _ hu => enterInterrupt_keeps hP hu hU
  · exact servePec_keeps hP x rest _ hU

theorem runNext_keeps (hP : StableStep P) {s t : State} (h : runNext s = .next t) (hs : P s) : P t := by
  have hnote : P { s with lastWrites := [] } := hP.note s [] s.pswBefore hs
  rcases runNext_next h with ⟨e, -, -, -, rfl⟩ | ⟨i, u, -, -, hrun, rfl⟩
  · exact endStep_keeps hP _ (hP.raise _ e hnote)
  · obtain ⟨-, hexec, -⟩ := runInstr_next.1 hrun
    exact afterInstr_keeps hP i u (exec_keeps hP.toStableExec i hexec hnote)

/-- Every step keeps the property. -/
theorem step_keeps (hP : StableStep P) {s t : State} (h : step s = .next t) (hs : P s) : P t := by
  rcases step_next h with ⟨c, rfl⟩ | ⟨-, rfl⟩ | ⟨-, rfl⟩ | h
  · exact hP.reset s c hs
  · exact hs
  · exact tick_keeps hP s hs
  · obtain ⟨hU, htaken⟩ := examine_keeps hP (hP.wake s hs)
    rcases runOrTake_next h with ⟨u, hu, -, rfl⟩ | ⟨-, hrun⟩
    · exact endStep_keeps hP u (htaken u hu)
    · exact runNext_keeps hP hrun hU

end Sys2Proof.Machine
end

section
/-! SUPPORT. No step changes the parameters of the machine (00_scope.md R4). -/

namespace Sys2Proof.Machine

/-- A TFR bit noted keeps the parameters. -/
@[simp] theorem State.noteTrap_cfg (s : State) (flag : Word) : (s.noteTrap flag).cfg = s.cfg := by
  unfold State.noteTrap
  split <;> rfl

/-- A class B event requested keeps the parameters. -/
@[simp] theorem State.requestClassB_cfg (s : State) (e : ClassB) : (s.requestClassB e).cfg = s.cfg := by
  cases e <;> simp [State.requestClassB, ClassB.returnAddr]

/-- A core register written keeps the parameters. -/
@[simp] theorem storedCore_cfg (r : CoreReg) (v : Word) (s : State) : (storedCore r v s).cfg = s.cfg := by
  cases r with
  | dpp k => simp only [storedCore, State.setDpp]; split <;> rfl
  | _ => rfl

/-- To have the given parameters is kept by every update a step is made of. -/
theorem cfg_stableStep (c : Config) : StableStep fun s => s.cfg = c where
  ip _ _ h := h
  flags _ _ h := h
  draws _ _ h := h
  mdc _ _ h := h
  md _ _ _ h := h
  push _ h := h
  pop _ h := h
  core r v s _ h := (storedCore_cfg r v s).trans h
  store _ _ _ _ h := h
  drive _ _ _ _ h := h
  note _ _ _ h := h
  overflow s h := (State.noteTrap_cfg s _).trans h
  underflow s h := (State.noteTrap_cfg s _).trans h
  csp _ _ h := h
  cspClear _ h := h
  level _ _ h := h
  frames _ _ h := h
  raise s e h := (s.requestClassB_cfg e).trans h
  sequence _ _ _ _ _ h := h
  diswdt _ h := h
  einit _ h := h
  idle _ _ h := h
  powerDown _ _ h := h
  srvwdt _ h := h
  srst _ h := h
  reset _ _ h := h
  wake _ h := h
  pending _ _ h := h
  trapFlags _ _ h := h
  breakSequence _ h := h
  countDown _ h := h
  watchdog _ _ _ h := h

end Sys2Proof.Machine

namespace Sys2Proof.Proofs

open Sys2Proof.Machine

/-- Settles O9: the parameters are a property that every update keeps. -/
theorem stepKeepsParameters : Obligations.StepKeepsParameters :=
  fun s _ h => step_keeps (cfg_stableStep s.cfg) h rfl

end Sys2Proof.Proofs
end

section
/-! SUPPORT. What raising a class B event does (60_exceptions.md R407, R408). -/

namespace Sys2Proof.Machine

/-- Where the event's own parameter says so, it is refused. -/
theorem raiseClassB_refuse {e : ClassB} {s : State} (h : e.treatment s.cfg = .refuse) :
    raiseClassB e s = .refused (.classBRefused e) := by
  simp [raiseClassB, h]

/-- With `HW_TRAP_ENTRY = fault` a raised event is a fault. -/
theorem raiseClassB_fault {e : ClassB} {s : State} (h : e.treatment s.cfg = .raise) (hf : s.cfg.trapEntry = .fault) :
    raiseClassB e s = .fault (.classB e) := by
  simp [raiseClassB, h, hf]

/-- With `HW_TRAP_ENTRY = modelled` a TFR bit is set. -/
theorem noteTrap_modelled {s : State} (h : s.cfg.trapEntry = .modelled) (flag : Word) :
    s.noteTrap flag = { s with tfr := s.tfr ||| flag } := by
  simp [State.noteTrap, h]

/-- The return address of a class B event is taken from a state that differs in its draws alone. -/
theorem returnAddr_state (e : ClassB) (s : State) :
    (e.returnAddr s).2 = { s with draws := (e.returnAddr s).2.draws } := by
  cases e <;> rfl

/-- A class B event requested changes TFR, the sequence, its request, and the draws. -/
theorem requestClassB_eq {s : State} (h : s.cfg.trapEntry = .modelled) (e : ClassB) :
    s.requestClassB e = { s with
      tfr := s.tfr ||| (e.row s.cfg.trapTable).flag, seq := {},
      pending := { s.pending with classB := some ⟨(e.row s.cfg.trapTable).number, (e.returnAddr s).1⟩ },
      draws := (e.returnAddr s).2.draws } := by
  have hm : (e.returnAddr s).2.cfg.trapEntry = .modelled := by
    rw [returnAddr_state]
    exact h
  simp only [State.requestClassB, noteTrap_modelled hm]
  rw [returnAddr_state]

/-- The return address is the faulting instruction's, without a draw, for UNDOPC and PRTFLT. -/
theorem returnAddr_ip {e : ClassB} (s : State)
    (h : (∃ b0 b1, e = .undefinedOpcode b0 b1) ∨ (∃ b0 b1 b2 b3, e = .protectionFault b0 b1 b2 b3)) :
    e.returnAddr s = (s.ip, s) := by
  rcases h with ⟨b0, b1, rfl⟩ | ⟨b0, b1, b2, b3, rfl⟩ <;> rfl

end Sys2Proof.Machine

namespace Sys2Proof.Proofs

open Sys2Proof.Machine

/-- Settles O17, by the three settings an event can meet. -/
theorem raiseClassB : Obligations.RaiseClassB := by
  refine ⟨fun e s => ?_, rfl, rfl, rfl, rfl⟩
  intro setting row
  have hsetting : setting = e.treatment s.cfg := by cases e <;> rfl
  have hrow : row = e.row s.cfg.trapTable := by cases e <;> rfl
  rw [hsetting, hrow]
  refine ⟨raiseClassB_refuse, raiseClassB_fault, fun hraise hmodelled => ?_⟩
  refine ⟨(e.returnAddr s).1, (e.returnAddr s).2.draws, ?_, fun h => ?_⟩
  · rw [raiseClassB_next]
    exact ⟨hraise, hmodelled, requestClassB_eq hmodelled e⟩
  · rw [returnAddr_ip s h]
    exact ⟨rfl, rfl⟩

end Sys2Proof.Proofs
end

section
/-! SUPPORT. A step with nothing due runs the decoded instruction (00_scope.md R13), and with `GPR_MODEL = abstract_file`
the instructions that leave the register file alone (10_state.md R22). -/

namespace Sys2Proof.Machine

/-! ## The bank of a register file -/

/-- An address below 0x10000 is its low WORD in segment 0. -/
theorem eq_segmentZero {pa : PhysAddr} (h : pa.toNat < 0x10000) : pa = (0 : Byte) ++ pa.extractLsb' 0 16 := by
  apply BitVec.eq_of_toNat_eq
  rw [segmentZero_toNat, BitVec.extractLsb'_toNat, Nat.shiftRight_zero]
  omega

/-- The low WORD of an address in segment 0. -/
theorem extractLsb'_segmentZero (x : Word) : BitVec.extractLsb' 0 16 ((0 : Byte) ++ x : PhysAddr) = x := by
  apply BitVec.eq_of_toNat_eq
  rw [BitVec.extractLsb'_toNat, segmentZero_toNat, Nat.shiftRight_zero, Nat.mod_eq_of_lt x.isLt]

/-- With `abstract_file` the bank is the 32 bytes from CP up in segment 0, as long as CP has its reset value. -/
theorem inFile_iff {s : State} (hfile : s.cfg.gprModel = .abstractFile) (hcp : s.cp = fileBase s.cfg) (pa : PhysAddr) :
    inFile s.cfg pa = true ↔ ∃ k : Nat, k < 32 ∧ pa = (0 : Byte) ++ (s.cp + BitVec.ofNat 16 k) := by
  simp only [inFile, hfile, ← hcp, Bool.and_eq_true, decide_eq_true_eq, decide_true, true_and]
  constructor
  · rintro ⟨hseg, hk⟩
    refine ⟨_, hk, ?_⟩
    rw [BitVec.ofNat_toNat, BitVec.setWidth_eq, BitVec.add_comm, BitVec.sub_add_cancel]
    exact eq_segmentZero hseg
  · rintro ⟨k, hk, rfl⟩
    rw [segmentZero_toNat, extractLsb'_segmentZero]
    refine ⟨BitVec.isLt _, ?_⟩
    bv_omega

/-- With `abstract_file` and CP moved, nothing runs. -/
theorem fileStop_moved {s : State} (hfile : s.cfg.gprModel = .abstractFile) (hcp : s.cp ≠ fileBase s.cfg)
    (l : List PhysAddr) : fileStop l s = some .cpWrite := by
  simp [fileStop, hfile, hcp]

/-- With `abstract_file` a step that reaches the bank is refused for an address it reaches there. -/
theorem fileStop_reaches {s : State} (hfile : s.cfg.gprModel = .abstractFile) (hcp : s.cp = fileBase s.cfg)
    {l : List PhysAddr} (h : ∃ pa ∈ l, inFile s.cfg pa = true) :
    ∃ pa ∈ l, inFile s.cfg pa = true ∧ fileStop l s = some (.registerFile pa) := by
  obtain ⟨pa, hpa, hin⟩ := h
  have hmem : pa ∈ l.filter fun x => inFile s.cfg x := List.mem_filter.2 ⟨hpa, hin⟩
  cases hfilter : l.filter fun x => inFile s.cfg x with
  | nil => rw [hfilter] at hmem; cases hmem
  | cons q qs =>
    obtain ⟨hq, hqin⟩ := List.mem_filter.1 (show q ∈ l.filter fun x => inFile s.cfg x by rw [hfilter]; exact .head _)
    exact ⟨q, hq, hqin, by simp [fileStop, hfile, hcp, hfilter]⟩

/-! ## What an instruction reaches -/

/-- The locations an instruction reads are those of its operands that are read. -/
theorem readLocs_eq (i : Instr) :
    readLocs i = ((operandsOf i).filter (·.reads)).map fun o => (o.loc, o.width) := by
  cases i <;> rfl

/-- An operand of an instruction that lies in memory is reached. -/
theorem mem_reached_of_operand {i : Instr} {s : State} {o : Operand} {pa : PhysAddr} (ho : o ∈ operandsOf i)
    (hpa : o.memoryAddr s = some pa) : pa ∈ reached i s := by
  simp only [reached, List.mem_append, List.mem_filterMap]
  exact .inl (.inl ⟨o, ho, hpa⟩)

/-- A location that is read is an operand's. -/
theorem operand_of_readLocs {i : Instr} {l : Loc} {w : Width} (h : (l, w) ∈ readLocs i) :
    ∃ o ∈ operandsOf i, o.loc = l ∧ o.width = w := by
  rw [readLocs_eq, List.mem_map] at h
  obtain ⟨o, ho, heq⟩ := h
  cases heq
  exact ⟨o, (List.mem_filter.1 ho).1, rfl, rfl⟩

/-- A `mem` operand that is read is reached. -/
theorem mem_reached_of_readLocs_mem {i : Instr} {w : Width} {a : Word} (s : State) (h : (.mem a, w) ∈ readLocs i) :
    dataAddr a s ∈ reached i s := by
  obtain ⟨⟨l, w', r⟩, ho, rfl, rfl⟩ := operand_of_readLocs h
  exact mem_reached_of_operand ho rfl

/-- With the bank in RAM a `[Rw_n]` operand that is read is reached. -/
theorem mem_reached_of_readLocs_ind {i : Instr} {w : Width} {n : BitVec 4} {s : State} (hbank : BankInRam s)
    (h : (.ind n, w) ∈ readLocs i) : dataAddr (gprWord n s) s ∈ reached i s := by
  obtain ⟨o, ho, hl, rfl⟩ := operand_of_readLocs h
  refine mem_reached_of_operand ho ?_
  simp [Operand.memoryAddr, hl, Loc.isRegister, addr_bank hbank, effAddr]

/-- PUSH reaches the WORD below SP. -/
theorem mem_reached_push (r : Byte) (s : State) : stackAddr (s.sp - 2) ∈ reached (.push r) s := by
  simp [reached, pushCount, Instr.mnemonic, belowSp]

/-- POP reaches the WORD at SP. -/
theorem mem_reached_pop (r : Byte) (s : State) : stackAddr s.sp ∈ reached (.pop r) s := by
  simp [reached, popCount, Instr.mnemonic, aboveSp]

/-! ## The step -/

/-- With nothing due, an instruction fetched and no hazard, the step runs it under the setting of `GPR_MODEL`. -/
theorem step_runInstr {s : State} {bytes : List Byte} {i : Instr} (hq : Quiet s) (heven : s.ip.getLsbD 0 = false)
    (hbytes : fetchBytes s = .ok bytes) (hdecode : decode bytes = .instr i []) (hwf : i.wf s.cfg.device = true)
    (hhazard : hazard i s = none) : step s = mapNext (afterInstr i) (runInstr i s) :=
  (step_quiet hq).trans (runNext_instr (fetchInstr_decoded heven hbytes hdecode hwf) hhazard)

/-- With `memory_mapped` an instruction run is `exec`. -/
theorem runInstr_memoryMapped {s : State} (h : s.cfg.gprModel = .memoryMapped) (i : Instr) :
    runInstr i s = exec i { s with lastWrites := [] } := by
  simp only [runInstr, fileStop_memoryMapped h]
  cases exec i { s with lastWrites := [] } <;> simp [refuseCpWrite, h]

/-- An instruction the file refuses. -/
theorem runInstr_stopped {i : Instr} {s : State} {e : Refusal} (h : fileStop (reached i s) s = some e) :
    runInstr i s = .refused e := by
  simp [runInstr, h]

/-- An instruction the file lets through is `exec` under the guard of CP. -/
theorem runInstr_passed {i : Instr} {s : State} (h : fileStop (reached i s) s = none) :
    runInstr i s = refuseCpWrite s (exec i { s with lastWrites := [] }) := by
  simp [runInstr, h]

/-- The guard of CP lets an outcome through that has not written CP. -/
theorem refuseCpWrite_kept {s t : State} (hnote : .cp ∉ t.lastWrites) (hsame : t.cp = s.cp) :
    refuseCpWrite s (.next t) = .next t :=
  refuseCpWrite_next.2 ⟨rfl, fun ⟨_, h⟩ => h.elim hnote (absurd hsame)⟩

/-- With `abstract_file` the guard of CP refuses an outcome that has written CP. -/
theorem refuseCpWrite_written {s t : State} (hfile : s.cfg.gprModel = .abstractFile)
    (h : .cp ∈ t.lastWrites ∨ t.cp ≠ s.cp) : refuseCpWrite s (.next t) = .refused .cpWrite := by
  simp only [refuseCpWrite]
  exact if_pos ⟨hfile, h⟩

end Sys2Proof.Machine

namespace Sys2Proof.Proofs

open Sys2Proof.Machine

/-- Settles O5: with nothing due the step is `runInstr`, whose two guards ask for the bank before `exec` and for CP after
it. -/
theorem stepRunsDecoded : Obligations.StepRunsDecoded := by
  intro s bytes i hq heven hbytes hdecode hwf hhazard
  rw [step_runInstr hq heven hbytes hdecode hwf hhazard]
  refine ⟨fun hmapped => ?mapped, fun hfile hmoved => ?moved,
    fun hfile hcp => ⟨inFile_iff hfile hcp, fun hkeeps => ?keeps, fun hreaches => ?reaches⟩,
    fun l w hl => ⟨?mem, fun hbank => ?ind⟩, ?push, ?pop⟩
  case mapped => rw [runInstr_memoryMapped hmapped]
  case moved => rw [runInstr_stopped (fileStop_moved hfile hmoved _)]; rfl
  case keeps =>
    rw [runInstr_passed ((fileStop_none hfile hcp _).2 hkeeps)]
    refine ⟨fun t ht => ⟨fun hnote hsame => ?_, fun hwritten => ?_⟩, fun e he => ?_, fun e he => ?_⟩
    · rw [ht, refuseCpWrite_kept hnote hsame]; rfl
    · rw [ht, refuseCpWrite_written hfile hwritten]; rfl
    · rw [he]; rfl
    · rw [he]; rfl
  case reaches =>
    obtain ⟨pa, hpa, hin, hstop⟩ := fileStop_reaches hfile hcp hreaches
    exact ⟨pa, hpa, hin, by rw [runInstr_stopped hstop]; rfl⟩
  case mem => rintro a rfl; exact mem_reached_of_readLocs_mem s hl
  case ind => rintro n rfl; exact mem_reached_of_readLocs_ind hbank hl
  case push => rintro r rfl; exact mem_reached_push r s
  case pop => rintro r rfl; exact mem_reached_pop r s

end Sys2Proof.Proofs
end

section
/-! SUPPORT. A property of states that the basic updates keep is kept by an instruction as soon as the special updates
of that very instruction keep it too: what only IDLE, EINIT or a transfer between segments changes, the others leave
alone. -/

namespace Sys2Proof.Machine

/-! ## The instructions with an update of their own -/

/-- A sequence starts when none runs (42_atomic_ext.md R220, R227 a). -/
theorem startSequence_ok {g : BitVec 2} {e : Bool} {o : Override} {len : Nat} {s t : State} :
    startSequence g e o len s = .ok t ↔
      s.seq.count = 0 ∧ ({ s with seq := sequenceState g e o } : State).advance len = t := by
  unfold startSequence
  split <;> simp_all

/-- IDLE answers outside a sequence (45_system.md R313; 42_atomic_ext.md R227 b). -/
theorem enterIdle_ok {s t : State} :
    enterIdle s = .ok t ↔ s.seq.count = 0 ∧ ({ s with runState := .idle } : State).advance 4 = t := by
  unfold enterIdle
  split <;> simp_all

/-- PWRDN answers outside a sequence, with NMI# high as a mere advance (R315, R227 b). -/
theorem powerDown_ok {s t : State} (h : powerDown s = .ok t) :
    s.seq.count = 0 ∧ (t = s.advance 4 ∨ t = ({ s with runState := .powerDown } : State).advance 4) := by
  unfold powerDown at h
  split at h
  · cases h
  · rename_i hc
    refine ⟨by simpa using hc, ?_⟩
    split at h
    · cases h; exact .inl rfl
    · cases h; exact .inr rfl

/-! ## A property one instruction keeps -/

/-- The instructions that write CSP on purpose, reset apart (10_state.md R28). -/
def farMnemonics : List Mnemonic := [.calls, .jmps, .rets, .reti, .trap]

/-- The property is kept by every update instruction `i` is made of. -/
structure StableFor (i : Instr) (P : State → Prop) : Prop extends Stable P where
  raise : ∀ s e, P s → P (State.requestClassB s e)
  far : i.mnemonic ∈ farMnemonics → StableFar P
  sequence : startsSequence i = true → ∀ s g e o, s.seq.count = 0 → P s → P { s with seq := sequenceState g e o }
  diswdt : i = .diswdt → ∀ s, P s → P (disableWatchdog s)
  einit : i = .einit → ∀ s, P s → P (endInit s)
  idle : i = .idle → ∀ s, s.seq.count = 0 → P s → P { s with runState := .idle }
  powerDown : i = .pwrdn → ∀ s, s.seq.count = 0 → P s → P { s with runState := .powerDown }
  srvwdt : i = .srvwdt → ∀ s, P s → P (serviceWatchdog s)
  srst : i = .srst → ∀ s, P s → P (s.resetBy .software)

variable {P : State → Prop}

theorem startSequence_keeps_of
    (hq : ∀ s g e o, s.seq.count = 0 → P s → P { s with seq := sequenceState g e o }) (hP : Stable P)
    {g : BitVec 2} {e : Bool} {o : Override} {len : Nat} {s t : State} (h : startSequence g e o len s = .ok t)
    (hs : P s) : P t := by
  obtain ⟨hc, rfl⟩ := startSequence_ok.1 h
  exact hP.ip _ _ (hq s g e o hc hs)

theorem startSequenceFrom_keeps_of
    (hq : ∀ s g e o, s.seq.count = 0 → P s → P { s with seq := sequenceState g e o }) (hP : Stable P)
    {g : BitVec 2} {e : Bool} {k : OverrideKind} {m : BitVec 4} {s t : State}
    (h : startSequenceFrom g e k m s = .ok t) (hs : P s) : P t := by
  simp only [startSequenceFrom, Res.bind_ok] at h
  obtain ⟨⟨w, u⟩, hu, h⟩ := h
  exact startSequence_keeps_of hq hP h (memReadW_keeps hP hu hs)

/-- An instruction keeps what its own updates keep. -/
theorem exec_keeps_for {i : Instr} (hP : StableFor i P) {s t : State} (h : exec i s = .next t) (hs : P s) : P t := by
  have hN := hP.toStable
  have hR := hP.raise
  cases i with
  | addRwRw | addRwInd | addRwIndInc | addRwData3 | addRegData16 | addRegMem | addMemReg | addcRwRw | addcRwInd |
    addcRwIndInc | addcRwData3 | addcRegData16 | addcRegMem | addcMemReg | subRwRw | subRwInd | subRwIndInc |
    subRwData3 | subRegData16 | subRegMem | subMemReg | subcRwRw | subcRwInd | subcRwIndInc | subcRwData3 |
    subcRegData16 | subcRegMem | subcMemReg | cmpRwRw | cmpRwInd | cmpRwIndInc | cmpRwData3 | cmpRegData16 | cmpRegMem |
    xorRwRw | xorRwInd | xorRwIndInc | xorRwData3 | xorRegData16 | xorRegMem | xorMemReg | andRwRw | andRwInd |
    andRwIndInc | andRwData3 | andRegData16 | andRegMem | andMemReg | orRwRw | orRwInd | orRwIndInc | orRwData3 |
    orRegData16 | orRegMem | orMemReg =>
    exact finish_keeps hR h hs fun _ hu => aluW_keeps hN hu hs
  | addbRbRb | addbRbInd | addbRbIndInc | addbRbData3 | addbRegData8 | addbRegMem | addbMemReg | addcbRbRb |
    addcbRbInd | addcbRbIndInc | addcbRbData3 | addcbRegData8 | addcbRegMem | addcbMemReg | subbRbRb | subbRbInd |
    subbRbIndInc | subbRbData3 | subbRegData8 | subbRegMem | subbMemReg | subcbRbRb | subcbRbInd | subcbRbIndInc |
    subcbRbData3 | subcbRegData8 | subcbRegMem | subcbMemReg | cmpbRbRb | cmpbRbInd | cmpbRbIndInc | cmpbRbData3 |
    cmpbRegData8 | cmpbRegMem | xorbRbRb | xorbRbInd | xorbRbIndInc | xorbRbData3 | xorbRegData8 | xorbRegMem |
    xorbMemReg | andbRbRb | andbRbInd | andbRbIndInc | andbRbData3 | andbRegData8 | andbRegMem | andbMemReg | orbRbRb |
    orbRbInd | orbRbIndInc | orbRbData3 | orbRegData8 | orbRegMem | orbMemReg =>
    exact finish_keeps hR h hs fun _ hu => aluB_keeps hN hu hs
  | rolRwRw | rolRwData4 | rorRwRw | rorRwData4 | shlRwRw | shlRwData4 | shrRwRw | shrRwData4 | ashrRwRw |
    ashrRwData4 =>
    exact finish_keeps hR h hs fun _ hu => shiftOp_keeps hN hu hs
  | priorRwRw => exact finish_keeps hR h hs fun _ hu => priorOp_keeps hN hu hs
  | atomic | extr | extsSeg | extpPag | extsrSeg | extprPag =>
    exact finish_keeps hR h hs fun _ hu => startSequence_keeps_of (hP.sequence rfl) hN hu hs
  | extsRw | extpRw | extsrRw | extprRw =>
    exact finish_keeps hR h hs fun _ hu => startSequenceFrom_keeps_of (hP.sequence rfl) hN hu hs
  | bfldl | bfldh => exact finish_keeps hR h hs fun _ hu => bitField_keeps hN hu hs
  | bcmp | bor | band | bxor => exact finish_keeps hR h hs fun _ hu => twoBit_keeps hN hu hs
  | bmovn | bmov => exact finish_keeps hR h hs fun _ hu => moveBit_keeps hN hu hs
  | jb | jnb => exact finish_keeps hR h hs fun _ hu => jumpOnBit_keeps hN hu hs
  | jbc | jnbs => exact finish_keeps hR h hs fun _ hu => testAndChange_keeps hN hu hs
  | bclr | bset => exact finish_keeps hR h hs fun _ hu => writeBit_keeps hN hu hs
  | calla | callr => exact finish_keeps hR h hs fun _ hu => callTo_keeps hN hu hs
  | jmpa | jmpr => cases h; exact jumpIf_keeps hN _ _ _ s hs
  | calli => exact finish_keeps hR h hs fun _ hu => callIndirect_keeps hN hu hs
  | jmpi => exact finish_keeps hR h hs fun _ hu => jumpIndirect_keeps hN hu hs
  | calls =>
    exact finish_keeps hR h hs fun _ hu => callSegment_keeps (hP.far (by simp [farMnemonics, Instr.mnemonic])) hu hs
  | jmps => cases h; exact jumpSegment_keeps (hP.far (by simp [farMnemonics, Instr.mnemonic])) _ _ s hs
  | pcall => exact finish_keeps hR h hs fun _ hu => pushCall_keeps hN hu hs
  | ret => exact finish_keeps hR h hs fun _ hu => returnNear_keeps hN hu hs
  | rets =>
    exact finish_keeps hR h hs fun _ hu => returnFar_keeps (hP.far (by simp [farMnemonics, Instr.mnemonic])) hu hs
  | reti =>
    exact finish_keeps hR h hs fun _ hu => returnFromTrap_keeps (hP.far (by simp [farMnemonics, Instr.mnemonic])) hu hs
  | retp => exact finish_keeps hR h hs fun _ hu => returnPop_keeps hN hu hs
  | trap =>
    exact finish_keeps hR h hs fun _ hu => enterTrap_keeps (hP.far (by simp [farMnemonics, Instr.mnemonic])) hu hs
  | cmpi1RwData4 | cmpi1RwData16 | cmpi1RwMem | cmpi2RwData4 | cmpi2RwData16 | cmpi2RwMem | cmpd1RwData4 |
    cmpd1RwData16 | cmpd1RwMem | cmpd2RwData4 | cmpd2RwData16 | cmpd2RwMem =>
    exact finish_keeps hR h hs fun _ hu => compareStep_keeps hN hu hs
  | neg | cpl => exact finish_keeps hR h hs fun _ hu => unaryW_keeps hN hu hs
  | negb | cplb => exact finish_keeps hR h hs fun _ hu => unaryB_keeps hN hu hs
  | diswdt => cases h; exact hP.diswdt rfl s hs
  | einit => cases h; exact hP.einit rfl s hs
  | idle =>
    refine finish_keeps hR h hs fun _ hu => ?_
    obtain ⟨hc, rfl⟩ := enterIdle_ok.1 hu
    exact hN.ip _ _ (hP.idle rfl s hc hs)
  | pwrdn =>
    refine finish_keeps hR h hs fun _ hu => ?_
    obtain ⟨hc, rfl | rfl⟩ := powerDown_ok hu
    · exact hN.ip _ _ hs
    · exact hN.ip _ _ (hP.powerDown rfl s hc hs)
  | srst => cases h; exact hP.srst rfl s hs
  | srvwdt => cases h; exact hP.srvwdt rfl s hs
  | nop => cases h; exact hN.ip s _ hs
  | mulRwRw | muluRwRw => exact finish_keeps hR h hs fun _ hu => multiply_keeps hN hu hs
  | div | divu | divl | divlu => exact finish_keeps hR h hs fun _ hu => divide_keeps hN hu hs
  | movRwRw | movRwData4 | movRegData16 | movRwInd | movRwIndInc | movIndRw | movIndDecRw | movIndInd | movIndIncInd |
    movIndIndInc | movRwIndDisp | movIndDispRw | movIndMem | movMemInd | movRegMem | movMemReg =>
    exact finish_keeps hR h hs fun _ hu => moveW_keeps hN hu hs
  | movbRbRb | movbRbData4 | movbRegData8 | movbRbInd | movbRbIndInc | movbIndRb | movbIndDecRb | movbIndInd |
    movbIndIncInd | movbIndIndInc | movbRbIndDisp | movbIndDispRb | movbIndMem | movbMemInd | movbRegMem | movbMemReg =>
    exact finish_keeps hR h hs fun _ hu => moveB_keeps hN hu hs
  | movbsRwRb | movbsRegMem | movbsMemReg | movbszRwRb | movbszRegMem | movbszMemReg =>
    exact finish_keeps hR h hs fun _ hu => moveExtend_keeps hN hu hs
  | pop => exact finish_keeps hR h hs fun _ hu => popReg_keeps hN hu hs
  | push => exact finish_keeps hR h hs fun _ hu => pushReg_keeps hN hu hs
  | scxtRegData16 | scxtRegMem => exact finish_keeps hR h hs fun _ hu => switchContext_keeps hN hu hs

end Sys2Proof.Machine
end

section
/-! SUPPORT. The bits the invariant speaks of: the hard-wired zeros, PSW's reserved bits and MULIP, the segment number
(10_state.md R23, R27, R33), and what the shared updates of trap flags and requests leave alone. -/

namespace Sys2Proof.Machine

/-! ## WORDs with bits forced to 0 -/

/-- A pointer register's bit 0 is forced to 0 (20_memory.md R67). -/
theorem even_masked (v : Word) : (v &&& 0xFFFE).getLsbD 0 = false := by
  rw [BitVec.getLsbD_and]
  exact Bool.and_false _

/-- A page number has ten bits (R67). -/
theorem page_masked (v : Word) : v &&& 0x03FF < 0x0400 := by
  rw [BitVec.lt_def, BitVec.toNat_and]
  exact Nat.lt_succ_of_le Nat.and_le_right

/-- A stack pointer moved by a WORD stays even. -/
theorem even_sub_two {v : Word} (h : v.getLsbD 0 = false) : (v - 2).getLsbD 0 = false := by
  simp only [BitVec.getLsbD, Nat.testBit_zero, decide_eq_false_iff_not] at h ⊢
  bv_omega

/-- A stack pointer moved by a WORD stays even. -/
theorem even_add_two {v : Word} (h : v.getLsbD 0 = false) : (v + 2).getLsbD 0 = false := by
  simp only [BitVec.getLsbD, Nat.testBit_zero, decide_eq_false_iff_not] at h ⊢
  bv_omega

/-- A segment number masked is one of the device (10_state.md R23). -/
@[simp] theorem maskSeg_maskSeg (d : Device) (w : Word) : maskSeg d (maskSeg d w) = maskSeg d w := by
  unfold maskSeg
  cases d.segWidth <;> simp [BitVec.and_assoc]

/-- Segment 0 is one of every device. -/
@[simp] theorem maskSeg_zero (d : Device) : maskSeg d 0 = 0 := by
  unfold maskSeg
  cases d.segWidth <;> simp

/-! ## PSW -/

/-- Two WORDs that agree on the bits of a mask agree under it. -/
theorem and_eq_and_of_bits {a b m : Word} (h : ∀ j, j < 16 → m.getLsbD j = true → a.getLsbD j = b.getLsbD j) :
    a &&& m = b &&& m := by
  apply BitVec.eq_of_getLsbD_eq
  intro j hj
  rw [BitVec.getLsbD_and, BitVec.getLsbD_and]
  cases hm : m.getLsbD j with
  | false => simp
  | true => rw [h j hj hm]

/-- A mask's complement leaves nothing under it. -/
theorem and_not_and_self (w m : Word) : w &&& ~~~m &&& m = 0 := by
  apply BitVec.eq_of_getLsbD_eq
  intro j hj
  simp

/-- MULIP lies at no flag's place. -/
theorem PswLayout.mulip_ne_flag {l : PswLayout} (h : l.wf = true) :
    ∀ p ∈ [l.n, l.c, l.v, l.z, l.e], l.mulip.toNat ≠ p.toNat := by
  have hnodup : ([l.n, l.c, l.v, l.z, l.e] ++ [l.mulip, l.ien]).Nodup := PswLayout.places_nodup h
  obtain ⟨-, -, hapart⟩ := List.nodup_append.1 hnodup
  exact fun p hp hm => hapart p hp l.mulip (.head _) (BitVec.eq_of_toNat_eq hm.symm)

/-- The flags are no reserved bits. -/
theorem withFlags_reserved {l : PswLayout} (h : l.wf = true) (w : Word) (f : Flags) :
    withFlags l w f &&& l.reserved = w &&& l.reserved := by
  refine and_eq_and_of_bits fun j _ hr => getLsbD_withFlags_other l w f j fun p hp hj => ?_
  have hfree := (PswLayout.place_free h (List.mem_append_left [l.mulip, l.ien] hp)).1
  rw [hj, hfree] at hr
  cases hr

/-- Nor is MULIP a flag. -/
theorem withFlags_mulip {l : PswLayout} (h : l.wf = true) (w : Word) (f : Flags) :
    (withFlags l w f).getLsbD l.mulip.toNat = w.getLsbD l.mulip.toNat :=
  getLsbD_withFlags_other l w f _ (PswLayout.mulip_ne_flag h)

/-- ILVL holds no reserved bit. -/
theorem withIlvl_reserved {l : PswLayout} (h : l.wf = true) (w : Word) (level : BitVec 4) :
    withIlvl l w level &&& l.reserved = w &&& l.reserved := by
  refine and_eq_and_of_bits fun j hj hr => ?_
  rw [getLsbD_withIlvl l w level j hj, if_neg]
  rintro ⟨hlo, hhi⟩
  rw [PswLayout.ilvl_free h hlo hhi] at hr
  cases hr

/-- Nor MULIP. -/
theorem withIlvl_mulip {l : PswLayout} (h : l.wf = true) (w : Word) (level : BitVec 4) :
    (withIlvl l w level).getLsbD l.mulip.toNat = w.getLsbD l.mulip.toNat := by
  have hplace := (PswLayout.place_free h (p := l.mulip) (by simp [PswLayout.places])).2
  rw [getLsbD_withIlvl l w level _ l.mulip.isLt, if_neg]
  omega

/-- PSW after a reset, bit by bit: the flags, MULIP and the reserved bits 0, the others as `RESET_STATE` has them
(10_state.md R44, R45). -/
theorem getLsbD_resetBy_psw (s : State) (c : ResetCause) (j : Nat) (hj : j < 16) :
    (s.resetBy c).psw.getLsbD j =
      (!decide (j ∈ [s.cfg.psw.n.toNat, s.cfg.psw.c.toNat, s.cfg.psw.v.toNat, s.cfg.psw.z.toNat, s.cfg.psw.e.toNat,
          s.cfg.psw.mulip.toNat]) && s.cfg.resetValues.psw.getLsbD j && !s.cfg.psw.reserved.getLsbD j) := by
  simp only [State.resetBy, withFlags, BitVec.getLsbD_and, BitVec.getLsbD_not, getLsbD_withBit, hj, and_true,
    decide_true, Bool.true_and, List.mem_cons, List.not_mem_nil, or_false]
  grind

/-! ## Trap flags and requests -/

/-- A trap flag noted changes TFR alone. -/
theorem noteTrap_state (s : State) (flag : Word) : ∃ v, s.noteTrap flag = { s with tfr := v } := by
  unfold State.noteTrap
  split
  · exact ⟨s.tfr, rfl⟩
  · exact ⟨_, rfl⟩

/-- A stack-limit request changes TFR and the requests alone. -/
theorem requestStackOverflow_state (s : State) :
    ∃ v p, s.requestStackOverflow = { s with tfr := v, pending := p } := by
  obtain ⟨v, hv⟩ := noteTrap_state s s.cfg.trapTable.stackOverflow.flag
  exact ⟨v, _, by rw [State.requestStackOverflow, hv]⟩

/-- So does one at the other limit. -/
theorem requestStackUnderflow_state (s : State) :
    ∃ v p, s.requestStackUnderflow = { s with tfr := v, pending := p } := by
  obtain ⟨v, hv⟩ := noteTrap_state s s.cfg.trapTable.stackUnderflow.flag
  exact ⟨v, _, by rw [State.requestStackUnderflow, hv]⟩

/-- A class B request changes TFR, the requests and the draws, and drops the sequence. -/
theorem requestClassB_state (s : State) (e : ClassB) :
    ∃ v p d, s.requestClassB e = { s with tfr := v, seq := {}, pending := p, draws := d } := by
  obtain ⟨v, hv⟩ := noteTrap_state (e.returnAddr s).2 (e.row s.cfg.trapTable).flag
  refine ⟨v, { s.pending with classB := some ⟨(e.row s.cfg.trapTable).number, (e.returnAddr s).1⟩ },
    (e.returnAddr s).2.draws, ?_⟩
  simp only [State.requestClassB, hv]
  rw [returnAddr_state]

end Sys2Proof.Machine
end

section
/-! SUPPORT. The invariant of the machine is kept by every step (10_state.md R33, R38; 60_exceptions.md R422). Most of
it is kept by each update a step is made of (`SteadyInv`). Two clauses are not, and are read off the step as a whole: CP
with `abstract_file`, which the guards of a step watch, and the run state, which only IDLE and PWRDN leave. -/

namespace Sys2Proof.Machine

/-! ## What every update keeps -/

/-- The clauses of `MachineInv` that every update of a step keeps by itself. -/
structure SteadyInv (s : State) : Prop where
  canonical : s.mem.wf = true
  inSpace : ∀ c ∈ s.mem, c.1 < 2 ^ 24
  cpEven : s.cp.getLsbD 0 = false
  spEven : s.sp.getLsbD 0 = false
  stkovEven : s.stkov.getLsbD 0 = false
  stkunEven : s.stkun.getLsbD 0 = false
  dpp0Page : s.dpp0 < 0x0400
  dpp1Page : s.dpp1 < 0x0400
  dpp2Page : s.dpp2 < 0x0400
  dpp3Page : s.dpp3 < 0x0400
  layout : s.cfg.psw.wf = true
  reserved : s.psw &&& s.cfg.psw.reserved = 0
  mulip : s.psw.getLsbD s.cfg.psw.mulip.toNat = false
  segment : maskSeg s.cfg.device s.csp = s.csp
  count : s.seq.count ≤ 4
  ended : s.seq.count = 0 → s.seq = {}
  override : s.seq.page = none ∨ s.seq.seg = none
  window : s.initDone = true → s.wdtOpen = false

/-- With `abstract_file` CP has its reset value (10_state.md R22). -/
def FileAtReset (s : State) : Prop := s.cfg.gprModel = .abstractFile → s.cp = fileBase s.cfg

/-- No sequence runs in the idle and power-down states (42_atomic_ext.md R227 b). -/
def WaitsOutsideSequence (s : State) : Prop := s.runState ≠ .running → s.seq.count = 0

/-- The invariant and its three parts. -/
theorem machineInv_iff (s : State) : MachineInv s ↔ SteadyInv s ∧ FileAtReset s ∧ WaitsOutsideSequence s := by
  constructor
  · rintro ⟨hmem, hspace, hcp, hsp, hov, hun, h0, h1, h2, h3, hfile, hl, hr, hm, hseg, hc, he, ho, hwait, hw⟩
    exact ⟨⟨hmem, hspace, hcp, hsp, hov, hun, h0, h1, h2, h3, hl, hr, hm, hseg, hc, he, ho, hw⟩, hfile, hwait⟩
  · rintro ⟨⟨hmem, hspace, hcp, hsp, hov, hun, h0, h1, h2, h3, hl, hr, hm, hseg, hc, he, ho, hw⟩, hfile, hwait⟩
    exact ⟨hmem, hspace, hcp, hsp, hov, hun, h0, h1, h2, h3, hfile, hl, hr, hm, hseg, hc, he, ho, hwait, hw⟩

/-- A byte of the address space stored keeps the memory canonical and inside the space. -/
theorem SteadyInv.set {s : State} (h : SteadyInv s) {a : Nat} (v : Byte) (ha : a < 2 ^ 24) :
    (s.mem.set a v).wf = true ∧ ∀ c ∈ s.mem.set a v, c.1 < 2 ^ 24 := by
  refine ⟨Memory.set_wf _ _ _ h.canonical, fun c hc => ?_⟩
  rcases Memory.mem_set _ _ _ c hc with hold | hnew
  · exact h.inSpace c hold
  · rwa [hnew]

/-- A core register takes the bits its access column leaves it (10_state.md R33). -/
theorem SteadyInv.storedCore {s : State} (h : SteadyInv s) {r : CoreReg} {v : Word} (hr : coreRefusal r v s = none) :
    SteadyInv (storedCore r v s) := by
  cases r with
  | dpp k =>
    simp only [Machine.storedCore, State.setDpp]
    split
    · exact { h with dpp0Page := page_masked v }
    · exact { h with dpp1Page := page_masked v }
    · exact { h with dpp2Page := page_masked v }
    · exact { h with dpp3Page := page_masked v }
  | cp => exact { h with cpEven := even_masked v }
  | sp => exact { h with spEven := even_masked v }
  | stkov => exact { h with stkovEven := even_masked v }
  | stkun => exact { h with stkunEven := even_masked v }
  | psw =>
    have hv : v.getLsbD s.cfg.psw.mulip.toNat = false := by simpa [coreRefusal] using hr
    have hmulip : (v &&& ~~~s.cfg.psw.reserved).getLsbD s.cfg.psw.mulip.toNat = false := by
      rw [BitVec.getLsbD_and, hv, Bool.false_and]
    exact { h with reserved := and_not_and_self v _, mulip := hmulip }
  | csp | mdh | mdl | mdc | syscon | zeros | ones | tfr | wdt | wdtcon => exact { h with }

/-- A sequence that starts has one to four instructions and one override at most (42_atomic_ext.md R220). -/
theorem SteadyInv.sequence {s : State} (h : SteadyInv s) (g : BitVec 2) (e : Bool) (o : Override) :
    SteadyInv { s with seq := sequenceState g e o } := by
  have hcount : g.toNat + 1 ≤ 4 := g.isLt
  have hne : ∀ q : Seq, q.count = g.toNat + 1 → q.count = 0 → q = {} := fun q hq h0 => by omega
  cases o with
  | none => exact { h with count := hcount, ended := hne _ rfl, override := .inl rfl }
  | page p => exact { h with count := hcount, ended := hne _ rfl, override := .inr rfl }
  | seg sg => exact { h with count := hcount, ended := hne _ rfl, override := .inl rfl }

/-- The count down of a sequence, at whose end the overrides go (R220 item 4). -/
theorem SteadyInv.countDown {s : State} (h : SteadyInv s) : SteadyInv { s with seq := countDown s.seq } := by
  unfold Machine.countDown
  split
  · exact { h with }
  · exact { h with count := Nat.zero_le _, ended := fun _ => rfl, override := .inl rfl }
  · rename_i n hn
    have hcount := h.count
    exact { h with count := show n + 1 ≤ 4 by omega, ended := fun h0 => absurd h0 (Nat.succ_ne_zero n) }

/-- A reset gives PSW its flags, MULIP and its reserved bits as 0 (10_state.md R44). -/
theorem SteadyInv.resetBy {s : State} (h : SteadyInv s) (c : ResetCause) : SteadyInv (s.resetBy c) where
  canonical := (memoryAfterReset_wf s.cfg s.mem _ h.canonical h.inSpace).1
  inSpace := (memoryAfterReset_wf s.cfg s.mem _ h.canonical h.inSpace).2
  cpEven := even_masked _
  spEven := even_masked _
  stkovEven := even_masked _
  stkunEven := even_masked _
  dpp0Page := page_masked _
  dpp1Page := page_masked _
  dpp2Page := page_masked _
  dpp3Page := page_masked _
  layout := h.layout
  reserved := and_not_and_self _ _
  mulip := (getLsbD_resetBy_psw s c s.cfg.psw.mulip.toNat s.cfg.psw.mulip.isLt).trans (by simp)
  segment := maskSeg_maskSeg _ _
  count := Nat.zero_le _
  ended _ := rfl
  override := .inl rfl
  window hinit := absurd hinit Bool.false_ne_true

/-- Every update a step is made of keeps the steady clauses. -/
theorem steadyInv_stableStep : StableStep SteadyInv where
  ip _ _ h := { h with }
  flags s f h := { h with
    reserved := (withFlags_reserved h.layout s.psw f).trans h.reserved
    mulip := (withFlags_mulip h.layout s.psw f).trans h.mulip }
  draws _ _ h := { h with }
  mdc _ _ h := { h with }
  md _ _ _ h := { h with }
  push _ h := { h with spEven := even_sub_two h.spEven }
  pop _ h := { h with spEven := even_add_two h.spEven }
  core _ _ _ hr h := h.storedCore hr
  store _ _ v ha h := { h with canonical := (h.set v ha).1, inSpace := (h.set v ha).2 }
  drive _ _ v ha h := { h with canonical := (h.set v ha).1, inSpace := (h.set v ha).2 }
  note _ _ _ h := { h with }
  overflow s h := by
    obtain ⟨v, p, hs⟩ := requestStackOverflow_state s
    rw [hs]
    exact { h with }
  underflow s h := by
    obtain ⟨v, p, hs⟩ := requestStackUnderflow_state s
    rw [hs]
    exact { h with }
  csp s v h := { h with segment := maskSeg_maskSeg s.cfg.device v }
  cspClear s h := { h with segment := maskSeg_zero s.cfg.device }
  level s l h := { h with
    reserved := (withIlvl_reserved h.layout s.psw l).trans h.reserved
    mulip := (withIlvl_mulip h.layout s.psw l).trans h.mulip }
  frames _ _ h := { h with }
  raise s e h := by
    obtain ⟨v, p, d, hs⟩ := requestClassB_state s e
    rw [hs]
    exact { h with count := Nat.zero_le _, ended := fun _ => rfl, override := .inl rfl }
  sequence _ g e o _ h := h.sequence g e o
  diswdt _ h := { h with }
  einit _ h := { h with window := fun _ => rfl }
  idle _ _ h := { h with }
  powerDown _ _ h := { h with }
  srvwdt _ h := { h with window := fun _ => rfl }
  srst _ h := h.resetBy _
  reset _ c h := h.resetBy c
  wake _ h := { h with }
  pending _ _ h := { h with }
  trapFlags _ _ h := { h with }
  breakSequence _ h := { h with count := Nat.zero_le _, ended := fun _ => rfl, override := .inl rfl }
  countDown _ h := h.countDown
  watchdog _ _ _ h := { h with }

end Sys2Proof.Machine
end

section
/-! SUPPORT. The two clauses of the invariant that only a step as a whole keeps. -/

namespace Sys2Proof.Machine

/-! ## The ends of a step -/

/-- The watchdog's move changes its count and its request alone (60_exceptions.md R423). -/
theorem tick_state (s : State) : ∃ v p, s.tick = { s with wdt := v, pending := p } := by
  unfold State.tick
  split
  · exact ⟨s.wdt, s.pending, rfl⟩
  · split
    · exact ⟨_, _, rfl⟩
    · exact ⟨s.wdt, s.pending, rfl⟩

/-- The end of a step that ran no instruction changes the watchdog's count, the requests and the model's own notes. -/
theorem endStep_state (s : State) :
    ∃ v p, endStep s = { s with wdt := v, pending := p, wdtExact := false, pswBefore := s.psw } := by
  obtain ⟨v, p, h⟩ := tick_state { s with wdtExact := false, pswBefore := s.psw }
  exact ⟨v, p, h⟩

/-- The end of an instruction's step changes, besides, the sequence: it is counted down or left. -/
theorem afterInstr_state (i : Instr) (s : State) :
    ∃ q v b p, afterInstr i s = { s with seq := q, wdt := v, wdtExact := b, pending := p } ∧
      (q = s.seq ∨ q = countDown s.seq) := by
  unfold afterInstr
  split
  · exact ⟨s.seq, s.wdt, s.wdtExact, s.pending, rfl, .inl rfl⟩
  · obtain ⟨v, p, h⟩ := tick_state { s with
      seq := if startsSequence i then s.seq else countDown s.seq, wdtExact := decide (i.mnemonic = .srvwdt) }
    refine ⟨_, v, _, p, h, ?_⟩
    split
    · exact .inl rfl
    · exact .inr rfl

/-- No sequence, none to count down. -/
theorem countDown_count_zero {q : Seq} (h : q.count = 0) : (countDown q).count = 0 := by
  simp [countDown, h]

/-- An examination that takes nothing takes a draw at most. -/
theorem examine_state (s : State) : ∃ d, (examine s).1 = { s with draws := d } := by
  rcases (examine_cases s).1 with h | h
  · exact ⟨s.draws, h⟩
  · exact ⟨_, h⟩

/-! ## CP with a register file -/

/-- With `abstract_file` a step leaves CP, or is a reset (10_state.md R22). -/
theorem step_cp {s t : State} (h : step s = .next t) (hfile : s.cfg.gprModel = .abstractFile) :
    t.cp = s.cp ∨ t.cp = fileBase s.cfg := by
  rcases step_next h with ⟨c, rfl⟩ | ⟨-, rfl⟩ | ⟨-, rfl⟩ | h
  · exact .inr rfl
  · exact .inl rfl
  · obtain ⟨v, p, htick⟩ := tick_state s
    exact .inl (by rw [htick])
  · left
    obtain ⟨d, hd⟩ := examine_state { s with runState := .running }
    rcases runOrTake_next h with ⟨u, -, hguard, rfl⟩ | ⟨-, hrun⟩
    · obtain ⟨v, p, hend⟩ := endStep_state u
      obtain ⟨-, -, hcp⟩ := guardEntry_next hguard
      rw [hd] at hcp
      rw [hend]
      exact not_not.1 fun hne => hcp ⟨hfile, hne⟩
    · rw [hd] at hrun
      rcases runNext_next hrun with ⟨e, -, -, -, rfl⟩ | ⟨i, u, -, -, hinstr, rfl⟩
      · obtain ⟨v, p, d', hraise⟩ := requestClassB_state
          { s with runState := .running, draws := d, lastWrites := [] } e
        obtain ⟨w, q, hend⟩ := endStep_state
          (({ s with runState := .running, draws := d, lastWrites := [] } : State).requestClassB e)
        rw [hend, hraise]
      · obtain ⟨q, v, b, p, hafter, -⟩ := afterInstr_state i u
        obtain ⟨-, -, hcp⟩ := runInstr_next.1 hinstr
        rw [hafter]
        exact not_not.1 fun hne => hcp ⟨hfile, .inr hne⟩

/-! ## The run state -/

/-- A core register written leaves the run state. -/
@[simp] theorem storedCore_runState (r : CoreReg) (v : Word) (s : State) :
    (storedCore r v s).runState = s.runState := by
  cases r with
  | dpp k => simp only [storedCore, State.setDpp]; split <;> rfl
  | _ => rfl

/-- A class B request leaves the run state. -/
@[simp] theorem requestClassB_runState (s : State) (e : ClassB) : (s.requestClassB e).runState = s.runState := by
  obtain ⟨v, p, d, h⟩ := requestClassB_state s e
  rw [h]

/-- The data instructions, the transfers and the entries leave the run state. -/
theorem runState_stableFar (r : RunState) : StableFar fun s => s.runState = r where
  ip _ _ h := h
  flags _ _ h := h
  draws _ _ h := h
  mdc _ _ h := h
  md _ _ _ h := h
  push _ h := h
  pop _ h := h
  core c v s _ h := (storedCore_runState c v s).trans h
  store _ _ _ _ h := h
  drive _ _ _ _ h := h
  note _ _ _ h := h
  overflow s h := by
    obtain ⟨v, p, hs⟩ := requestStackOverflow_state s
    rwa [hs]
  underflow s h := by
    obtain ⟨v, p, hs⟩ := requestStackUnderflow_state s
    rwa [hs]
  csp _ _ h := h
  cspClear _ h := h
  level _ _ h := h
  frames _ _ h := h

/-- Every instruction but IDLE, PWRDN and SRST leaves the run state (10_state.md R41). -/
theorem exec_runState {i : Instr} {s t : State} (h : exec i s = .next t) (hidle : i ≠ .idle) (hpwrdn : i ≠ .pwrdn)
    (hsrst : i ≠ .srst) : t.runState = s.runState := by
  have hfar := runState_stableFar s.runState
  exact exec_keeps_for (i := i) (P := fun u => u.runState = s.runState)
    { hfar with
      raise := fun u e hu => (requestClassB_runState u e).trans hu
      far := fun _ => hfar
      sequence := fun _ _ _ _ _ _ hu => hu
      diswdt := fun _ _ hu => hu
      einit := fun _ _ hu => hu
      idle := fun hi => absurd hi hidle
      powerDown := fun hi => absurd hi hpwrdn
      srvwdt := fun _ _ hu => hu
      srst := fun hi => absurd hi hsrst } h rfl

/-- An instruction of a running CPU that stops it runs outside a sequence (42_atomic_ext.md R227 b). -/
theorem exec_waits {i : Instr} {s t : State} (h : exec i s = .next t) (hrun : s.runState = .running) :
    WaitsOutsideSequence t := by
  intro hstopped
  by_cases hidle : i = .idle
  · subst hidle
    rcases finish_next s t _ h with hok | ⟨e, -, -, rfl⟩
    · obtain ⟨hc, rfl⟩ := enterIdle_ok.1 hok
      exact hc
    · exact absurd ((requestClassB_runState s e).trans hrun) hstopped
  by_cases hpwrdn : i = .pwrdn
  · subst hpwrdn
    rcases finish_next s t _ h with hok | ⟨e, -, -, rfl⟩
    · obtain ⟨hc, rfl | rfl⟩ := powerDown_ok hok
      · exact hc
      · exact hc
    · exact absurd ((requestClassB_runState s e).trans hrun) hstopped
  by_cases hsrst : i = .srst
  · subst hsrst
    cases h
    exact absurd rfl hstopped
  · exact absurd ((exec_runState h hidle hpwrdn hsrst).trans hrun) hstopped

/-- A PEC transfer moves bytes of memory and leaves the run state (60_exceptions.md R404). -/
theorem servePec_runState (x : PecTransfer) (rest : List PecTransfer) (s : State) :
    (servePec x rest s).runState = s.runState :=
  List.foldlRecOn x.cells pecStore (motive := fun u => u.runState = s.runState) rfl fun u hu c _ => by
    unfold pecStore
    repeat' split
    all_goals exact hu

/-- An event that is taken leaves the run state as the examination met it. -/
theorem examine_runState {s t : State} (h : (examine s).2 = some (.next t)) : t.runState = s.runState := by
  have hfar := runState_stableFar s.runState
  have hraise : ∀ u e, u.runState = s.runState → (State.requestClassB u e).runState = s.runState :=
    fun u e hu => (requestClassB_runState u e).trans hu
  obtain ⟨d, hd⟩ := examine_state s
  rcases (examine_cases s).2 t h with ⟨x, h⟩ | ⟨a, h⟩ | ⟨r, h⟩ | ⟨x, rest, rfl⟩
  · rw [hd] at h
    exact finish_keeps hraise h rfl fun _ hu => enterTrap_keeps hfar hu rfl
  · rw [hd] at h
    refine finish_keeps hraise h rfl fun _ hu => enterTrap_keeps hfar hu ?_
    cases a with
    | nmi =>
      obtain ⟨v, hv⟩ := noteTrap_state { s with draws := d } s.cfg.trapTable.nmi.flag
      simp only [ClassA.take, hv]
    | stackOverflow | stackUnderflow => rfl
  · rw [hd] at h
    exact finish_keeps hraise h rfl fun _ hu => enterTrap_keeps hfar hu rfl
  · rw [hd]
    exact servePec_runState x rest _

/-- A step leaves the CPU running or outside a sequence. -/
theorem step_waits {s t : State} (h : step s = .next t) (hs : WaitsOutsideSequence s) : WaitsOutsideSequence t := by
  rcases step_next h with ⟨c, rfl⟩ | ⟨-, rfl⟩ | ⟨-, rfl⟩ | h
  · exact fun _ => rfl
  · exact hs
  · obtain ⟨v, p, htick⟩ := tick_state s
    rw [htick]
    exact hs
  · obtain ⟨d, hd⟩ := examine_state { s with runState := .running }
    rcases runOrTake_next h with ⟨u, htaken, -, rfl⟩ | ⟨-, hrun⟩
    · obtain ⟨v, p, hend⟩ := endStep_state u
      rw [hend]
      exact fun hstopped => absurd (examine_runState htaken) hstopped
    · rw [hd] at hrun
      rcases runNext_next hrun with ⟨e, -, -, -, rfl⟩ | ⟨i, u, -, -, hinstr, rfl⟩
      · obtain ⟨v, p, hend⟩ := endStep_state
          (({ s with runState := .running, draws := d, lastWrites := [] } : State).requestClassB e)
        rw [hend]
        exact fun hstopped => absurd (requestClassB_runState _ e) hstopped
      · obtain ⟨-, hexec, -⟩ := runInstr_next.1 hinstr
        have hwaits := exec_waits hexec rfl
        obtain ⟨q, v, b, p, hafter, rfl | rfl⟩ := afterInstr_state i u
        · rw [hafter]
          exact hwaits
        · rw [hafter]
          exact fun hstopped => countDown_count_zero (hwaits hstopped)

end Sys2Proof.Machine

namespace Sys2Proof.Proofs

open Sys2Proof.Machine

/-- Settles O7: what every update keeps, CP with a register file, and the run state. -/
theorem stepKeepsInv : Obligations.StepKeepsInv := by
  intro s t hs h
  rw [machineInv_iff] at hs ⊢
  obtain ⟨hsteady, hfile, hwaits⟩ := hs
  refine ⟨step_keeps steadyInv_stableStep h hsteady, fun ha => ?_, step_waits h hwaits⟩
  rw [stepKeepsParameters s t h] at ha ⊢
  rcases step_cp h ha with hcp | hcp
  · exact hcp.trans (hfile ha)
  · exact hcp

/-- Settles O8: every clause is a closed fact of the reset state. -/
theorem resetInv : Obligations.ResetInv := by
  unfold Obligations.ResetInv MachineInv
  decide

/-- Settles O10: the reset state as R44 has it. -/
theorem resetState : Obligations.ResetState := ⟨rfl, rfl, rfl, rfl, rfl, rfl⟩

end Sys2Proof.Proofs
end

section
/-! SUPPORT. What a reset leaves (70_reset_and_hazards.md R450, R451), and the latches that only named instructions
change: RSTOUT#, SYSCON after EINIT, CSP (10_state.md R28, R32, R40). -/

namespace Sys2Proof.Machine

/-! ## Reset -/

/-- Of the bits of a PSW after a reset, the flags are 0 (10_state.md R44). -/
theorem resetBy_flags (s : State) (c : ResetCause) : (s.resetBy c).flags = ⟨false, false, false, false, false⟩ := by
  have hbit : ∀ p : BitVec 4, p ∈ [s.cfg.psw.n, s.cfg.psw.c, s.cfg.psw.v, s.cfg.psw.z, s.cfg.psw.e] →
      (s.resetBy c).psw.getLsbD p.toNat = false := by
    intro p hp
    rw [getLsbD_resetBy_psw s c p.toNat p.isLt, decide_eq_true, Bool.not_true, Bool.false_and, Bool.false_and]
    have hmem := List.mem_map_of_mem (f := BitVec.toNat) hp
    simp only [List.map_cons, List.map_nil, List.mem_cons, List.not_mem_nil, or_false] at hmem ⊢
    tauto
  simp only [State.flags, flagsOf, Flags.mk.injEq]
  refine ⟨hbit _ ?_, hbit _ ?_, hbit _ ?_, hbit _ ?_, hbit _ ?_⟩ <;> simp [State.resetBy]

/-- With the default table and layout PSW is 0 after a reset. -/
theorem resetBy_psw_default (s : State) (c : ResetCause) (hv : s.cfg.resetValues = {}) (hl : s.cfg.psw = {}) :
    (s.resetBy c).psw = 0 := by
  simp only [State.resetBy, hv, hl]
  decide

/-- With the default table and layout every register has its value of the reset state (10_state.md R45). -/
theorem resetBy_default (s : State) (c : ResetCause) (hv : s.cfg.resetValues = {}) (hl : s.cfg.psw = {}) :
    s.resetBy c = { State.reset with
      cfg := s.cfg, nmiPin := s.nmiPin, mem := (s.resetBy c).mem, draws := (s.resetBy c).draws,
      wdtcon := if c = .watchdog then 0x0002 else 0x0000 } := by
  have hpsw := resetBy_psw_default s c hv hl
  have hcsp : (s.resetBy c).csp = 0 := by
    simp only [State.resetBy, hv]
    exact maskSeg_zero _
  have hwdtcon : (s.resetBy c).wdtcon = if c = .watchdog then 0x0002 else 0x0000 := by
    simp only [State.resetBy, hv]
    rfl
  have hrest : s.resetBy c = { State.reset with
      cfg := s.cfg, nmiPin := s.nmiPin, mem := (s.resetBy c).mem, draws := (s.resetBy c).draws,
      psw := (s.resetBy c).psw, csp := (s.resetBy c).csp, wdtcon := (s.resetBy c).wdtcon } := by
    simp only [State.resetBy, hv]
    rfl
  rw [hrest, hpsw, hcsp, hwdtcon]
  rfl

/-! ## Latches -/

/-- What instruction `i`, begun in `s`, leaves of RSTOUT#, SYSCON and CSP in a state `u` it passes. -/
structure LatchesKept (i : Instr) (s u : State) : Prop where
  cfg : u.cfg = s.cfg
  initDone : i ≠ .srst → i ≠ .einit → u.initDone = s.initDone
  syscon : i ≠ .srst → s.initDone = true → u.initDone = true ∧ u.syscon = s.syscon
  csp : i.mnemonic ∉ .srst :: farMnemonics → u.csp = s.csp
  segment : u.csp = s.csp ∨ maskSeg s.cfg.device u.csp = u.csp

/-- A core register written: CSP takes nothing, SYSCON nothing once RSTOUT# is high (10_state.md R28, R32). -/
theorem LatchesKept.storedCore {i : Instr} {s u : State} (h : LatchesKept i s u) {r : CoreReg} {v : Word}
    (hr : coreRefusal r v u = none) : LatchesKept i s (storedCore r v u) := by
  cases r with
  | dpp k =>
    simp only [Machine.storedCore, State.setDpp]
    split <;> exact { h with }
  | syscon =>
    have hopen : u.initDone ≠ true := by simpa [coreRefusal] using hr
    exact { h with syscon := fun hi hs => absurd (h.syscon hi hs).1 hopen }
  | csp | mdh | mdl | cp | sp | stkov | stkun | mdc | psw | zeros | ones | tfr | wdt | wdtcon => exact { h with }

/-- The data instructions' updates keep the latches. -/
theorem latchesKept_stable (i : Instr) (s : State) : Stable (LatchesKept i s) where
  ip _ _ h := { h with }
  flags _ _ h := { h with }
  draws _ _ h := { h with }
  mdc _ _ h := { h with }
  md _ _ _ h := { h with }
  push _ h := { h with }
  pop _ h := { h with }
  core _ _ _ hr h := h.storedCore hr
  store _ _ _ _ h := { h with }
  drive _ _ _ _ h := { h with }
  note _ _ _ h := { h with }
  overflow u h := by
    obtain ⟨v, p, hu⟩ := requestStackOverflow_state u
    rw [hu]
    exact { h with }
  underflow u h := by
    obtain ⟨v, p, hu⟩ := requestStackUnderflow_state u
    rw [hu]
    exact { h with }

/-- Each instruction's own updates keep the latches it is not named for. -/
theorem latchesKept_stableFor (i : Instr) (s : State) : StableFor i (LatchesKept i s) where
  toStable := latchesKept_stable i s
  raise u e h := by
    obtain ⟨v, p, d, hu⟩ := requestClassB_state u e
    rw [hu]
    exact { h with }
  far hfar :=
    { latchesKept_stable i s with
      csp := fun u v h => { h with
        csp := fun hi => absurd (List.mem_cons_of_mem _ hfar) hi
        segment := .inr (by rw [h.cfg]; exact maskSeg_maskSeg _ v) }
      cspClear := fun u h => { h with
        csp := fun hi => absurd (List.mem_cons_of_mem _ hfar) hi
        segment := .inr (maskSeg_zero _) }
      level := fun _ _ h => { h with }
      frames := fun _ _ h => { h with } }
  sequence _ _ _ _ _ _ h := { h with }
  diswdt _ _ h := { h with }
  einit hi u h := { h with
    initDone := fun _ hne => absurd hi hne
    syscon := fun hne hs => ⟨rfl, (h.syscon hne hs).2⟩ }
  idle _ _ _ h := { h with }
  powerDown _ _ _ h := { h with }
  srvwdt _ _ h := { h with }
  srst hi u h :=
    { cfg := h.cfg
      initDone := fun hne => absurd hi hne
      syscon := fun hne => absurd hi hne
      csp := fun hm => absurd (by rw [hi]; exact .head _) hm
      segment := .inr (by rw [← h.cfg]; exact maskSeg_maskSeg _ _) }

/-- An instruction keeps the latches it is not named for. -/
theorem exec_latches {i : Instr} {s t : State} (h : exec i s = .next t) : LatchesKept i s t :=
  exec_keeps_for (latchesKept_stableFor i s) h ⟨rfl, fun _ _ => rfl, fun _ hs => ⟨hs, rfl⟩, fun _ => rfl, .inl rfl⟩

/-- RSTOUT# goes low by SRST, high by EINIT, and is left by every other instruction (45_system.md R312, R316). -/
theorem exec_initDone {i : Instr} {s t : State} (h : exec i s = .next t) :
    t.initDone = if i = .srst then false else if i = .einit then true else s.initDone := by
  split
  case isTrue hsrst => subst hsrst; cases h; rfl
  case isFalse hsrst =>
    split
    case isTrue heinit => subst heinit; cases h; rfl
    case isFalse heinit => exact (exec_latches h).initDone hsrst heinit

end Sys2Proof.Machine

namespace Sys2Proof.Proofs

open Sys2Proof.Machine

/-- Settles O11: the registers as `resetBy` sets them, PSW bit by bit, and ROM by the filter of the memory. -/
theorem resetEffect : Obligations.ResetEffect := by
  intro s c
  refine ⟨⟨?registers, ?psw, rfl⟩, resetBy_default s c, fun a => memoryAfterReset_rom s.cfg s.mem _ a⟩
  case registers => exact ⟨rfl, rfl, rfl, rfl, rfl, rfl, rfl, rfl, rfl, rfl, rfl, rfl, rfl, rfl, rfl, rfl, rfl⟩
  case psw =>
    refine ⟨resetBy_flags s c, and_not_and_self _ _, ?mulip, fun j hj hplace hfree => ?other⟩
    case mulip =>
      exact (getLsbD_resetBy_psw s c s.cfg.psw.mulip.toNat s.cfg.psw.mulip.isLt).trans (by simp)
    case other =>
      rw [getLsbD_resetBy_psw s c j hj, hfree, decide_eq_false hplace]
      simp

/-- Settles O15: each instruction keeps the latches it is not named for. -/
theorem latchedRegisters : Obligations.LatchedRegisters := by
  refine ⟨fun i s t h => ⟨exec_initDone h, fun hs hi => ((exec_latches h).syscon hi hs).2⟩, fun i s t h => ⟨?_, ?_⟩⟩
  · rw [or_iff_not_imp_right]
    intro hm
    refine (exec_latches h).csp fun hmem => hm ?_
    simp only [farMnemonics, List.mem_cons, List.not_mem_nil, or_false] at hmem ⊢
    tauto
  · exact (exec_latches h).segment

end Sys2Proof.Proofs
end

section
/-! SUPPORT. Addresses as numbers: code, data and register operands (10_state.md R23, R24; 20_memory.md R70 to R76). -/

namespace Sys2Proof.Machine

/-! ## The device's address space -/

/-- How many segments a device has: 2 ^ `SEG_BITS` (10_state.md R23). -/
def segments (d : Device) : Nat :=
  match d.segWidth with
  | .eight => 256
  | .two => 4

/-- `PA_BITS` is `SEG_BITS` + 16. -/
theorem truncateAddr_toNat (d : Device) (pa : PhysAddr) :
    (truncateAddr d pa).toNat = pa.toNat % (segments d * 65536) := by
  unfold truncateAddr segments
  cases d.segWidth with
  | eight => exact (Nat.mod_eq_of_lt pa.isLt).symm
  | two => exact (BitVec.toNat_and _ _).trans (Nat.and_two_pow_sub_one_eq_mod pa.toNat 18)

/-- CSP's low `SEG_BITS` bits. -/
theorem maskSeg_toNat (d : Device) (w : Word) : (maskSeg d w).toNat = w.toNat % segments d := by
  unfold maskSeg segments
  cases d.segWidth with
  | eight => exact (BitVec.toNat_and _ _).trans (Nat.and_two_pow_sub_one_eq_mod w.toNat 8)
  | two => exact (BitVec.toNat_and _ _).trans (Nat.and_two_pow_sub_one_eq_mod w.toNat 2)

/-- A device has at most 256 segments, and at least four. -/
theorem segments_bounds (d : Device) : 4 ≤ segments d ∧ segments d ≤ 256 := by
  unfold segments
  cases d.segWidth <;> simp

/-- A segment number and an address inside the segment. -/
theorem segmentAddr_toNat (g : Byte) (a : Word) : BitVec.toNat (w := 24) (g ++ a) = g.toNat * 65536 + a.toNat := by
  show BitVec.toNat (w := 8 + 16) (g ++ a) = _
  rw [BitVec.toNat_append, ← Nat.shiftLeft_add_eq_or_of_lt a.isLt, Nat.shiftLeft_eq]

/-- A page number and the address inside the page. -/
theorem pageAddr_toNat (p : BitVec 10) (a : Word) :
    BitVec.toNat (w := 24) (p ++ a.extractLsb' 0 14) = p.toNat * 16384 + a.toNat % 16384 := by
  show BitVec.toNat (w := 10 + 14) (p ++ a.extractLsb' 0 14) = _
  rw [BitVec.toNat_append, ← Nat.shiftLeft_add_eq_or_of_lt (BitVec.isLt _), Nat.shiftLeft_eq, BitVec.extractLsb'_toNat,
    Nat.shiftRight_zero]

/-! ## Code and data addresses -/

/-- The fetched bytes lie in CSP's segment, their addresses wrapping inside it (R23, R24). -/
theorem codeAddr_toNat (s : State) {k : Nat} (hk : k < 4) :
    (codeAddr s k).toNat = s.csp.toNat % segments s.cfg.device * 65536 + (s.ip.toNat + k) % 65536 := by
  obtain ⟨-, hle⟩ := segments_bounds s.cfg.device
  have hpos : 0 < segments s.cfg.device := by have := (segments_bounds s.cfg.device).1; omega
  have hseg := Nat.mod_lt s.csp.toNat hpos
  have hin : (s.ip.toNat + k) % 65536 < 65536 := Nat.mod_lt _ (by decide)
  rw [codeAddr, truncateAddr_toNat, segmentAddr_toNat, BitVec.extractLsb'_toNat, Nat.shiftRight_zero, maskSeg_toNat,
    BitVec.toNat_add, BitVec.toNat_ofNat, Nat.mod_eq_of_lt (show k < 2 ^ 16 by omega),
    Nat.mod_eq_of_lt (show s.csp.toNat % segments s.cfg.device < 2 ^ 8 by omega)]
  refine Nat.mod_eq_of_lt ?_
  have := Nat.mul_le_mul_right 65536 (Nat.succ_le_of_lt hseg)
  omega

/-- Bits 15..14 of an address select the DPP register (10_state.md R31). -/
theorem dpp_selected (s : State) (a : Word) :
    s.dpp (a.extractLsb' 14 2) =
      if a.toNat < 0x4000 then s.dpp0 else if a.toNat < 0x8000 then s.dpp1
        else if a.toNat < 0xC000 then s.dpp2 else s.dpp3 := by
  have hlt := a.isLt
  have hk : (a.extractLsb' 14 2).toNat = a.toNat / 16384 := by
    rw [BitVec.extractLsb'_toNat, Nat.shiftRight_eq_div_pow]
    omega
  unfold State.dpp
  rw [hk]
  split_ifs
  · simp only [show a.toNat / 16384 = 0 by omega]
  · simp only [show a.toNat / 16384 = 1 by omega]
  · simp only [show a.toNat / 16384 = 2 by omega]
  · simp only [show a.toNat / 16384 = 3 by omega]

/-- With an EXTS override the address lies in its segment (20_memory.md R72). -/
theorem dataAddr_seg {s : State} {g : Byte} (h : s.seq.seg = some g) (a : Word) :
    (dataAddr a s).toNat = (g.toNat * 65536 + a.toNat) % (segments s.cfg.device * 65536) := by
  simp only [dataAddr, h, truncateAddr_toNat, segmentAddr_toNat]

/-- With an EXTP override it lies in its page. -/
theorem dataAddr_page {s : State} {p : BitVec 10} (hseg : s.seq.seg = none) (h : s.seq.page = some p) (a : Word) :
    (dataAddr a s).toNat = (p.toNat * 16384 + a.toNat % 16384) % (segments s.cfg.device * 65536) := by
  simp only [dataAddr, hseg, h, truncateAddr_toNat, pageAddr_toNat]

/-- Without segmentation it lies in segment 0. -/
theorem dataAddr_flat {s : State} (hseg : s.seq.seg = none) (hpage : s.seq.page = none) (h : s.sgtdis = true)
    (a : Word) : (dataAddr a s).toNat = a.toNat := by
  simp only [dataAddr, hseg, hpage, h, if_true, segmentZero_toNat]

/-- Else it lies in the page the DPP register gives. -/
theorem dataAddr_dpp {s : State} (hseg : s.seq.seg = none) (hpage : s.seq.page = none) (h : s.sgtdis = false)
    (a : Word) :
    (dataAddr a s).toNat =
      ((s.dpp (a.extractLsb' 14 2)).toNat % 1024 * 16384 + a.toNat % 16384) % (segments s.cfg.device * 65536) := by
  simp only [dataAddr, hseg, hpage, h, Bool.false_eq_true, if_false, truncateAddr_toNat, pageAddr_toNat,
    BitVec.extractLsb'_toNat, Nat.shiftRight_zero]

/-! ## Register operands -/

/-- A register number's upper half is 0xF from 0xF0 on. -/
theorem isGprNumber_iff (r : Byte) : r.extractLsb' 4 4 = 0xF#4 ↔ 0xF0 ≤ r.toNat := by
  have hlt := r.isLt
  rw [← BitVec.toNat_inj, BitVec.extractLsb'_toNat, Nat.shiftRight_eq_div_pow]
  show _ = 15 ↔ _
  omega

/-- Its lower half is the register's number. -/
theorem gprNumber_toNat {r : Byte} (h : 0xF0 ≤ r.toNat) : (r.extractLsb' 0 4).toNat = r.toNat - 0xF0 := by
  have hlt := r.isLt
  rw [BitVec.extractLsb'_toNat, Nat.shiftRight_zero]
  omega

/-- `Rw[n]` lies at CP + 2n where the bank does not wrap (10_state.md R22). -/
theorem gprAddr_toNat_of_cp {s : State} (hcp : s.cp.toNat + 31 < 65536) (n : BitVec 4) :
    (gprAddr s n).toNat = s.cp.toNat + 2 * n.toNat := by
  have hn := n.isLt
  rw [gprAddr, segmentZero_toNat]
  bv_omega

/-- `Rb[k]` lies at CP + k. -/
theorem gprByteAddr_toNat_of_cp {s : State} (hcp : s.cp.toNat + 31 < 65536) (k : BitVec 4) :
    (gprByteAddr s k).toNat = s.cp.toNat + k.toNat := by
  have hk := k.isLt
  rw [gprByteAddr, segmentZero_toNat]
  bv_omega

/-- Twice a register number, as an offset. -/
theorem twice_setWidth (r : Byte) : 2 * r.setWidth 24 = BitVec.ofNat 24 (2 * r.toNat) := by
  bv_omega

/-- A `bitoff` from 0x80 on without its top bit. -/
theorem twice_bitSfrNumber {r : Byte} (h : 0x80 ≤ r.toNat) :
    2 * (r &&& 0x7F).setWidth 24 = BitVec.ofNat 24 (2 * (r.toNat - 0x80)) := by
  have hlt := r.isLt
  have hlow : (r &&& 0x7F).toNat = r.toNat - 0x80 := by
    rw [BitVec.toNat_and]
    exact (Nat.and_two_pow_sub_one_eq_mod r.toNat 7).trans (by omega)
  rw [twice_setWidth, hlow]

/-- The top bit of a BYTE. -/
theorem topBit_iff (r : Byte) : r.getLsbD 7 = true ↔ 0x80 ≤ r.toNat := by
  have hlt := r.isLt
  rw [BitVec.getLsbD, Nat.testBit_eq_decide_div_mod_eq, decide_eq_true_eq]
  omega

/-- `bitoff` below 0x80: the bit-addressable RAM (20_memory.md R74). -/
theorem bitWordAddr_ram {r : Byte} (s : State) (h : r.toNat < 0x80) :
    bitWordAddr r s = s.cfg.bases.bitRam + BitVec.ofNat 24 (2 * r.toNat) := by
  have hgpr : ¬ r.extractLsb' 4 4 = 0xF#4 := by rw [isGprNumber_iff]; omega
  have htop : ¬ r.getLsbD 7 = true := by rw [topBit_iff]; omega
  rw [bitWordAddr, if_neg hgpr, if_neg htop, twice_setWidth]

/-- `bitoff` from 0x80 to 0xEF: the bit-addressable SFRs or ESFRs. -/
theorem bitWordAddr_sfr {r : Byte} (s : State) (hlo : 0x80 ≤ r.toNat) (hhi : r.toNat < 0xF0) :
    bitWordAddr r s =
      (if s.seq.esfr then s.cfg.bases.bitEsfr else s.cfg.bases.bitSfr) + BitVec.ofNat 24 (2 * (r.toNat - 0x80)) := by
  have hgpr : ¬ r.extractLsb' 4 4 = 0xF#4 := by rw [isGprNumber_iff]; omega
  rw [bitWordAddr, if_neg hgpr, if_pos ((topBit_iff r).2 hlo), twice_bitSfrNumber hlo]

/-- `reg` below 0xF0: the SFR or ESFR (20_memory.md R70). -/
theorem regAddr_sfr {r : Byte} (w : Width) (s : State) (h : r.toNat < 0xF0) :
    regAddr r w s = (if s.seq.esfr then s.cfg.bases.esfr else s.cfg.bases.sfr) + BitVec.ofNat 24 (2 * r.toNat) := by
  have hgpr : ¬ r.extractLsb' 4 4 = 0xF#4 := by rw [isGprNumber_iff]; omega
  unfold regAddr
  rw [if_neg hgpr, sfrAddr, twice_setWidth]

/-- From 0xF0 on `reg` and `bitoff` are general registers (10_state.md R21, R22). -/
theorem registerNumber_gpr {r : Byte} (s : State) (h : 0xF0 ≤ r.toNat) :
    regAddr r .word s = gprAddr s (r.extractLsb' 0 4) ∧ regAddr r .byte s = gprByteAddr s (r.extractLsb' 0 4) ∧
      bitWordAddr r s = gprAddr s (r.extractLsb' 0 4) := by
  have hgpr := (isGprNumber_iff r).2 h
  simp [regAddr, bitWordAddr, hgpr]

/-! ## The SFR and ESFR areas -/

/-- In a map that has each number once, a register stands at the numbers the map has for it. -/
theorem coreAt_eq_some_iff {map : List (Nat × CoreReg)} (hmap : (map.map Prod.fst).Nodup) (k : Nat) (r : CoreReg) :
    coreAt map k = some r ↔ (k, r) ∈ map := by
  induction map with
  | nil => simp [coreAt]
  | cons x map ih =>
    obtain ⟨hx, hrest⟩ := List.nodup_cons.1 hmap
    rw [coreAt, List.mem_cons]
    split
    · rename_i hk
      have hno : (k, r) ∉ map := fun hm => hx (hk ▸ List.mem_map_of_mem (f := Prod.fst) hm)
      rw [or_iff_left hno, Prod.ext_iff, Option.some_inj]
      exact ⟨fun hr => ⟨hk, hr.symm⟩, fun hx => hx.2.symm⟩
    · rename_i hk
      rw [ih hrest]
      simp [Prod.ext_iff, hk]

/-- A core register is what `SFR_MAP` has at the address's number, inside the SFR area (R33, R64). -/
theorem classify_sfr {c : Config} {pa : PhysAddr} (hfile : inFile c pa = false) (hsfr : inSfrArea c pa.toNat = true)
    (r : CoreReg) :
    classify c pa = .core r ↔ coreAt c.sfrMap ((pa.toNat - c.bases.sfr.toNat) / 2) = some r := by
  simp only [classify, hfile, hsfr, Bool.false_eq_true, if_false, if_true]
  cases coreAt c.sfrMap ((pa.toNat - c.bases.sfr.toNat) / 2) <;> simp

/-- With the default bases and map, the core register at a number of the SFR area. -/
theorem classify_default_sfr {c : Config} {k : Nat} (hbases : c.bases = {}) (hmap : c.sfrMap = defaultSfrMap)
    (hk : k < 0x100) (hfile : inFile c (BitVec.ofNat 24 (0xFE00 + 2 * k)) = false) (r : CoreReg) :
    classify c (BitVec.ofNat 24 (0xFE00 + 2 * k)) = .core r ↔ (k, r) ∈ defaultSfrMap := by
  have hpa : (BitVec.ofNat 24 (0xFE00 + 2 * k)).toNat = 0xFE00 + 2 * k := by
    rw [BitVec.toNat_ofNat]
    omega
  have hbase : c.bases.sfr.toNat = 0xFE00 := by rw [hbases]; rfl
  have hsfr : inSfrArea c (BitVec.ofNat 24 (0xFE00 + 2 * k)).toNat = true := by
    simp only [inSfrArea, hpa, hbase, Bool.and_eq_true, decide_eq_true_eq]
    omega
  have hnumber : (0xFE00 + 2 * k - 0xFE00) / 2 = k := by omega
  rw [classify_sfr hfile hsfr, hpa, hbase, hnumber, hmap]
  exact coreAt_eq_some_iff (by decide) k r

/-- With the default bases the ESFR area is the platform's, and without `HAS_EXT` no area (42_atomic_ext.md R228). -/
theorem classify_default_esfr {c : Config} {a : Nat} (hbases : c.bases = {}) (hlo : 0xF000 ≤ a) (hhi : a < 0xF200)
    (hfile : inFile c (BitVec.ofNat 24 a) = false) :
    classify c (BitVec.ofNat 24 a) = if c.device.hasExt then .platform else mappedClass c.map a := by
  have hpa : (BitVec.ofNat 24 a).toNat = a := by
    rw [BitVec.toNat_ofNat]
    omega
  have hsfr : inSfrArea c a = false := by
    have hbase : c.bases.sfr.toNat = 0xFE00 := by rw [hbases]; rfl
    simp only [inSfrArea, hbase, Bool.and_eq_false_iff, decide_eq_false_iff_not]
    omega
  have hesfr : inEsfrArea c a = c.device.hasExt := by
    have hbase : c.bases.esfr.toNat = 0xF000 := by rw [hbases]; rfl
    have hin : a < 0xF000 + 0x200 := by omega
    simp only [inEsfrArea, hbase, hlo, hin, decide_true, Bool.and_true]
  simp [classify, hfile, hpa, hsfr, hesfr]

end Sys2Proof.Machine

namespace Sys2Proof.Proofs

open Sys2Proof.Machine

/-- Settles O6: the chain of R72, each link read as a number. -/
theorem addressRules : Obligations.AddressRules := by
  refine ⟨fun s k hk => ?code, fun s a => ?data⟩
  case code =>
    rw [codeAddr_toNat s hk]
    unfold segments
    cases s.cfg.device.segWidth <;> rfl
  case data =>
    intro size
    have hsize : size = segments s.cfg.device * 65536 := by
      show (match s.cfg.device.segWidth with | .eight => 2 ^ 24 | .two => 2 ^ 18) = segments s.cfg.device * 65536
      unfold segments
      cases s.cfg.device.segWidth <;> rfl
    rw [hsize]
    refine ⟨fun g hg => dataAddr_seg hg a, fun hseg => ⟨fun p hp => dataAddr_page hseg hp a, fun hpage =>
      ⟨fun hflat => dataAddr_flat hseg hpage hflat a, fun hdpp => ⟨?_, fun h0 h1 h2 h3 => ?_⟩⟩⟩⟩
    · rw [dataAddr_dpp hseg hpage hdpp, dpp_selected]
    · have hlt := a.isLt
      have hsegments := (segments_bounds s.cfg.device).1
      have hpage' : (s.dpp (a.extractLsb' 14 2)).toNat = a.toNat / 16384 := by
        rw [dpp_selected, h0, h1, h2, h3]
        split_ifs <;> simp <;> omega
      have hsum : a.toNat / 16384 % 1024 * 16384 + a.toNat % 16384 = a.toNat := by omega
      rw [dataAddr_dpp hseg hpage hdpp, hpage', hsum]
      exact Nat.mod_eq_of_lt (by omega)

/-- Settles O60: register numbers by range, and `SFR_MAP` read at each number. -/
theorem registerOperands : Obligations.RegisterOperands := by
  refine ⟨fun s r w hcp => ⟨regAddr_sfr w s, fun h => ?gpr, bitWordAddr_ram s, bitWordAddr_sfr s⟩,
    ⟨rfl, rfl, rfl, rfl, rfl⟩, fun c k r hbases hmap hk hfile => classify_default_sfr hbases hmap hk hfile r,
    fun c a hbases hlo hhi hfile => classify_default_esfr hbases hlo hhi hfile⟩
  case gpr =>
    obtain ⟨hword, hbyte, hbit⟩ := registerNumber_gpr s h
    rw [hword, hbyte, hbit, gprAddr_toNat_of_cp hcp, gprByteAddr_toNat_of_cp hcp, gprNumber_toNat h]
    exact ⟨rfl, rfl, rfl⟩

end Sys2Proof.Proofs
end

section
/-! SUPPORT. When an access completes, by the class of its address (20_memory.md R64 to R67), and what the core
registers make of it (10_state.md R27, R30, R33). -/

namespace Sys2Proof.Machine

/-! ## Where an access stops -/

/-- A WORD at an odd address is a trap (20_memory.md R65). -/
theorem accessStop_odd {pa : PhysAddr} (h : pa.getLsbD 0 = true) (c : Config) :
    accessStop .word pa c = some (.trap (.illegalWordOperandAccess pa)) := by
  unfold accessStop
  exact if_pos ⟨rfl, h⟩

/-- The width meets no alignment rule at the address: it is a BYTE, or the address is even. -/
def Aligned (w : Width) (pa : PhysAddr) : Prop := w = .word → pa.getLsbD 0 = false

variable {w : Width} {pa : PhysAddr} {v : Word} {s : State}

/-- Where nothing is misaligned only an absent address stops an access (R64). -/
theorem accessStop_aligned (ha : Aligned w pa) (c : Config) :
    accessStop w pa c = if classify c pa = .absent then some (.refuse (.absentAddress pa)) else none := by
  unfold accessStop
  refine if_neg ?_
  rintro ⟨hw, hodd⟩
  rw [ha hw] at hodd
  cases hodd

/-- What stops an access stops a write. -/
theorem writeStop_of_accessStop {e : Stop} (h : accessStop w pa s.cfg = some e) : writeStop w pa v s = some e := by
  simp [writeStop, h]

/-- A write of an absent address. -/
theorem writeStop_absent (ha : Aligned w pa) (hc : classify s.cfg pa = .absent) :
    writeStop w pa v s = some (.refuse (.absentAddress pa)) :=
  writeStop_of_accessStop (by rw [accessStop_aligned ha, if_pos hc])

/-- A write of ROM (R67). -/
theorem writeStop_rom (ha : Aligned w pa) (hc : classify s.cfg pa = .rom) :
    writeStop w pa v s = some (.refuse (.romWrite pa)) := by
  simp [writeStop, accessStop_aligned ha, hc]

/-- Nothing stops a write of RAM or the platform. -/
theorem writeStop_plain (ha : Aligned w pa) (hc : classify s.cfg pa = .ram ∨ classify s.cfg pa = .platform) :
    writeStop w pa v s = none := by
  rcases hc with hc | hc <;> simp [writeStop, accessStop_aligned ha, hc]

/-- A write of a core register stops where the register refuses the value. -/
theorem writeStop_core (ha : Aligned w pa) {r : CoreReg} (hc : classify s.cfg pa = .core r) :
    writeStop w pa v s = (coreRefusal r v s).map .refuse := by
  simp [writeStop, accessStop_aligned ha, hc]

/-- SYSCON is locked after EINIT (10_state.md R32). -/
theorem coreRefusal_syscon (v : Word) (h : s.initDone = true) : coreRefusal .syscon v s = some .sysconLocked := by
  simp [coreRefusal, h]

/-- MULIP is never written as 1 (46_mul_div.md R337). -/
theorem coreRefusal_psw (h : v.getLsbD s.cfg.psw.mulip.toNat = true) : coreRefusal .psw v s = some .mulipWrite := by
  simp only [coreRefusal, h, if_true]

/-- No other value is refused. -/
theorem coreRefusal_none {r : CoreReg} (hcsp : r ≠ .csp) (hsyscon : r = .syscon → s.initDone = false)
    (hpsw : r = .psw → v.getLsbD s.cfg.psw.mulip.toNat = false) : coreRefusal r v s = none := by
  cases r with
  | csp => exact absurd rfl hcsp
  | syscon => simp [coreRefusal, hsyscon rfl]
  | psw => simp only [coreRefusal, hpsw rfl, Bool.false_eq_true, if_false]
  | _ => rfl

/-! ## Accesses -/

/-- A write that stops. -/
theorem memWriteW_stopped {e : Stop} (h : writeStop .word pa v s = some e) : memWriteW pa v s = .error e := by
  simp [memWriteW, h]

/-- The same for a BYTE. -/
theorem memWriteB_stopped {v : Byte} {e : Stop} (h : writeStop .byte pa (wordOfByte pa.toNat v) s = some e) :
    memWriteB pa v s = .error e := by
  simp [memWriteB, h]

/-- A WORD written to a core register. -/
theorem storedW_core {r : CoreReg} (hc : classify s.cfg pa = .core r) : storedW pa v s = storedCore r v s := by
  simp [storedW, hc]

/-- A BYTE written to a core register gives it a WORD (20_memory.md R67). -/
theorem storedB_core {v : Byte} {r : CoreReg} (hc : classify s.cfg pa = .core r) :
    storedB pa v s = storedCore r (wordOfByte pa.toNat v) s := by
  simp [storedB, hc]

/-- The WORD a BYTE gives a register: the other byte is 0. -/
theorem wordOfByte_eq (pa : PhysAddr) (v : Byte) :
    wordOfByte pa.toNat v = if pa.getLsbD 0 then v ++ (0 : Byte) else (0 : Byte) ++ v := by
  simp only [wordOfByte, BitVec.getLsbD, Nat.testBit_zero, decide_eq_true_eq]
  rcases Nat.mod_two_eq_zero_or_one pa.toNat with h | h <;> simp [h]

/-! ## Core registers -/

/-- A DPP register reads back its ten bits (R67). -/
theorem setDpp_dpp (s : State) (k : BitVec 2) (v : Word) : (s.setDpp k v).dpp k = v &&& 0x03FF := by
  have hk : k = 0 ∨ k = 1 ∨ k = 2 ∨ k = 3 := by
    revert k
    decide
  rcases hk with rfl | rfl | rfl | rfl <;> rfl

/-- A DPP register written leaves MDC. -/
theorem setDpp_mdc (s : State) (k : BitVec 2) (v : Word) : (s.setDpp k v).mdc = s.mdc := by
  unfold State.setDpp
  split <;> rfl

/-- MDRIU is bit 4 of MDC (10_state.md R30). -/
theorem getLsbD_markMdInUse (s : State) (j : Nat) :
    s.markMdInUse.mdc.getLsbD j = (s.mdc.getLsbD j || decide (j = 4)) := by
  have hbit : (0x0010 : Word).getLsbD j = decide (j = 4) := by
    rw [show (0x0010 : Word) = BitVec.twoPow 16 4 by decide, BitVec.getLsbD_twoPow]
    simp [eq_comm]
  rw [State.markMdInUse, BitVec.getLsbD_or, hbit]

/-- And the only bit a read of MDL clears. -/
theorem getLsbD_clearMdInUse (s : State) (j : Nat) :
    s.clearMdInUse.mdc.getLsbD j = (s.mdc.getLsbD j && !decide (j = 4)) := by
  by_cases hj : j < 16
  · have hbit : ∀ j, j < 16 → (0xFFEF : Word).getLsbD j = !decide (j = 4) := by decide
    rw [State.clearMdInUse, BitVec.getLsbD_and, hbit j hj]
  · rw [BitVec.getLsbD_of_ge _ _ (by omega), BitVec.getLsbD_of_ge _ _ (by omega), Bool.false_and]

/-- No other core register written changes MDC. -/
theorem storedCore_mdc {r : CoreReg} (v : Word) (s : State) (hmdc : r ≠ .mdc) (hmdl : r ≠ .mdl) (hmdh : r ≠ .mdh) :
    (storedCore r v s).mdc = s.mdc := by
  cases r with
  | dpp k => exact setDpp_mdc s k v
  | mdc => exact absurd rfl hmdc
  | mdl => exact absurd rfl hmdl
  | mdh => exact absurd rfl hmdh
  | _ => rfl

/-- No other core register read changes MDC. -/
theorem loadCore_mdc {r : CoreReg} (s : State) (h : r ≠ .mdl) : (loadCore r s).2.mdc = s.mdc := by
  cases r with
  | mdl => exact absurd rfl h
  | wdt => simp only [loadCore]; split <;> rfl
  | _ => rfl

/-- The count of the watchdog where it is known (60_exceptions.md R424). -/
theorem loadCore_wdt_known (h : s.wdtExact = true ∨ s.cfg.wdtRate ≠ none) : loadCore .wdt s = (s.wdt, s) := by
  have hknown : s.wdtKnown = true := by
    simpa [State.wdtKnown, Option.isSome_iff_ne_none] using h
  simp only [loadCore, hknown, if_true]

/-- Elsewhere it is a draw. -/
theorem loadCore_wdt_free (hexact : s.wdtExact = false) (hrate : s.cfg.wdtRate = none) :
    loadCore .wdt s = s.drawWord := by
  simp [loadCore, State.wdtKnown, hexact, hrate]

/-! ## The layout of PSW -/

/-- The places of the flags lie apart. -/
theorem PswLayout.flags_nodup {l : PswLayout} (h : l.wf = true) :
    [l.n.toNat, l.c.toNat, l.v.toNat, l.z.toNat, l.e.toNat].Nodup := by
  have hsub : [l.n, l.c, l.v, l.z, l.e].Sublist l.places :=
    (List.sublist_append_left [l.n, l.c, l.v, l.z, l.e] [l.mulip, l.ien])
  exact ((PswLayout.places_nodup h).sublist hsub).map fun _ _ => BitVec.eq_of_toNat_eq

/-- The flags written are read back (10_state.md R27). -/
theorem flagsOf_withFlags {l : PswLayout} (h : l.wf = true) (w : Word) (f : Flags) :
    flagsOf l (withFlags l w f) = f := by
  have hnodup := PswLayout.flags_nodup h
  simp only [List.nodup_cons, List.mem_cons, List.not_mem_nil, or_false, not_or] at hnodup
  obtain ⟨⟨hnc, hnv, hnz, hne⟩, ⟨hcv, hcz, hce⟩, ⟨hvz, hve⟩, hze, -⟩ := hnodup
  have hlt : ∀ p : BitVec 4, p.toNat < 16 := fun p => p.isLt
  simp only [flagsOf, withFlags, getLsbD_withBit, and_true, if_true, if_false, *]

/-- The level written is read back. -/
theorem ilvlOf_withIlvl {l : PswLayout} (h : l.wf = true) (w : Word) (level : BitVec 4) :
    ilvlOf l (withIlvl l w level) = level := by
  have hle := PswLayout.ilvl_le h
  apply BitVec.eq_of_getLsbD_eq
  intro j hj
  rw [ilvlOf, BitVec.getLsbD_extractLsb', getLsbD_withIlvl l w level _ (by omega), if_pos (by omega),
    Nat.add_sub_cancel_left, decide_eq_true hj, Bool.true_and]

/-- In the default layout ILVL is bits 15..12. -/
theorem ilvlOf_default (w : Word) : (ilvlOf {} w).toNat = w.toNat / 4096 := by
  have hlt := w.isLt
  show (w.extractLsb' 12 4).toNat = w.toNat / 4096
  rw [BitVec.extractLsb'_toNat, Nat.shiftRight_eq_div_pow]
  omega

/-- In the default layout the flags are the five low bits. -/
theorem withFlags_default (w : Word) (f : Flags) : withFlags {} w f &&& 0xFFE0 = w &&& 0xFFE0 := by
  have hhigh : ∀ j, j < 16 → (0xFFE0 : Word).getLsbD j = true →
      ∀ p ∈ [(0 : BitVec 4), 1, 2, 3, 4], j ≠ p.toNat := by decide
  exact and_eq_and_of_bits fun j hj hm => getLsbD_withFlags_other {} w f j (hhigh j hj hm)

end Sys2Proof.Machine

namespace Sys2Proof.Proofs

open Sys2Proof.Machine

/-- Settles O57: the class of the address decides, after the alignment of a WORD. -/
theorem accessStops : Obligations.AccessStops := by
  refine ⟨fun pa v s => ⟨fun hodd => ?odd, fun heven => ?even⟩, fun pa v s => ?byte⟩
  case odd =>
    have hstop := accessStop_odd hodd s.cfg
    exact ⟨by simp [memReadW, hstop], memWriteW_stopped (writeStop_of_accessStop hstop)⟩
  case even =>
    have ha : Aligned .word pa := fun _ => heven
    refine ⟨fun hc => ⟨by simp [memReadW, accessStop_aligned ha, hc], memWriteW_stopped (writeStop_absent ha hc)⟩,
      fun hc => by simp [memReadW, accessStop_aligned ha, hc], fun hc => memWriteW_stopped (writeStop_rom ha hc),
      fun hc => (memWriteW_ok ..).2 ⟨writeStop_plain ha hc, rfl⟩,
      fun hc => memWriteW_stopped (writeStop_core ha hc), fun hc hlocked => ?_, fun hc hmulip => ?_,
      fun r hc hcsp hsyscon hpsw => ?_⟩
    · exact memWriteW_stopped (by rw [writeStop_core ha hc, coreRefusal_syscon v hlocked]; rfl)
    · exact memWriteW_stopped (by rw [writeStop_core ha hc, coreRefusal_psw hmulip]; rfl)
    · refine (memWriteW_ok ..).2 ⟨?_, storedW_core hc⟩
      rw [writeStop_core ha hc, coreRefusal_none hcsp hsyscon hpsw]
      rfl
  case byte =>
    intro w
    have ha : Aligned .byte pa := fun h => by cases h
    have hw : wordOfByte pa.toNat v = w := wordOfByte_eq pa v
    refine ⟨fun hc => ⟨by simp [memReadB, accessStop_aligned ha, hc], memWriteB_stopped (writeStop_absent ha hc)⟩,
      fun hc => by simp [memReadB, accessStop_aligned ha, hc], fun hc => memWriteB_stopped (writeStop_rom ha hc),
      fun hc => (memWriteB_ok ..).2 ⟨writeStop_plain ha hc, rfl⟩,
      fun hc => memWriteB_stopped (writeStop_core ha hc), fun hc hlocked => ?_, fun hc hmulip => ?_,
      fun r hc hcsp hsyscon hpsw => ?_⟩
    · exact memWriteB_stopped (by rw [writeStop_core ha hc, coreRefusal_syscon _ hlocked]; rfl)
    · exact memWriteB_stopped (by rw [hw, writeStop_core ha hc, coreRefusal_psw hmulip]; rfl)
    · refine (memWriteB_ok ..).2 ⟨?_, (storedB_core hc).trans (by rw [hw])⟩
      rw [hw, writeStop_core ha hc, coreRefusal_none hcsp hsyscon hpsw]
      rfl

/-- Settles O59: register by register, then the layout of PSW bit by bit. -/
theorem coreRegisterAccess : Obligations.CoreRegisterAccess := by
  refine ⟨fun r v s t h hwdt => ?readBack, fun v s t h => ?wdt, fun pa r v s t hc h => ?byte,
    fun r v s t h hmdc => ?write, fun r s => ?read, fun s => ⟨loadCore_wdt_known, fun hexact hrate =>
      ⟨_, loadCore_wdt_free hexact hrate⟩⟩, fun w => ?default, fun l w f level j hl hj => ?layout⟩
  case readBack =>
    obtain ⟨hr, rfl⟩ := (storeCore_ok r v s t).1 h
    cases r with
    | dpp k => exact setDpp_dpp s k v
    | csp => cases hr
    | wdt => exact absurd rfl hwdt
    | _ => rfl
  case wdt => exact ((storeCore_ok .wdt v s t).1 h).2.symm
  case byte =>
    rw [← wordOfByte_eq, ← storedB_core hc]
    exact ((memWriteB_ok pa v s t).1 h).2.symm
  case write =>
    obtain ⟨-, rfl⟩ := (storeCore_ok r v s t).1 h
    refine ⟨fun hr => ?_, storedCore_mdc v s hmdc⟩
    have hmark : (storedCore r v s).mdc = s.markMdInUse.mdc := by rcases hr with rfl | rfl <;> rfl
    rw [hmark]
    exact ⟨(getLsbD_markMdInUse s 4).trans (by simp), fun j hj => (getLsbD_markMdInUse s j).trans (by simp [hj])⟩
  case read =>
    refine ⟨?_, loadCore_mdc s⟩
    rintro rfl
    exact ⟨(getLsbD_clearMdInUse s 4).trans (by simp), fun j hj => (getLsbD_clearMdInUse s j).trans (by simp [hj])⟩
  case default => exact ⟨rfl, rfl, rfl, ilvlOf_default w, rfl, by decide, withFlags_default w⟩
  case layout =>
    refine ⟨flagsOf_withFlags hl w f, ilvlOf_withIlvl hl w level, fun hplace => ?_, fun hout => ?_⟩
    · refine getLsbD_withFlags_other l w f j fun p hp hjp => hplace ?_
      rw [hjp]
      exact List.mem_map_of_mem (f := BitVec.toNat) hp
    · rw [getLsbD_withIlvl l w level j hj, if_neg (by omega)]

end Sys2Proof.Proofs
end

section
/-! SUPPORT. What a fetch raises and at which byte it refuses (20_memory.md R76, R81; 30_encoding.md R118;
44_call_jump_return.md R290). -/

namespace Sys2Proof.Machine

variable {s : State} {k : Nat}

/-! ## One byte -/

/-- The byte at `codeAddr s k` can be fetched: it is ROM, or RAM that is no register file and that no store has changed
where that is refused. -/
def Fetchable (s : State) (k : Nat) : Prop :=
  classify s.cfg (codeAddr s k) = .rom ∨
    (classify s.cfg (codeAddr s k) = .ram ∧ inFile s.cfg (codeAddr s k) = false ∧
      (s.cfg.selfModifying = .sequential ∨ (codeAddr s k).toNat ∉ s.changed))

/-- A byte that can be fetched is the one in memory (R76). -/
theorem fetchByte_fetchable (h : Fetchable s k) : fetchByte s k = .ok (s.mem.get (codeAddr s k).toNat) := by
  rcases h with hrom | ⟨hram, hfile, hseen⟩
  · simp [fetchByte, hrom]
  · have hmodified : ¬ (s.cfg.selfModifying = .refuse ∧ (codeAddr s k).toNat ∈ s.changed) := by
      rintro ⟨hrefuse, hchanged⟩
      rcases hseen with hseq | hnot
      · rw [hrefuse] at hseq
        cases hseq
      · exact hnot hchanged
    simp only [fetchByte, hram, hfile, Bool.false_eq_true, if_false, if_neg hmodified]

/-- No byte is fetched outside RAM and ROM (R76). -/
theorem fetchByte_outside (hram : classify s.cfg (codeAddr s k) ≠ .ram) (hrom : classify s.cfg (codeAddr s k) ≠ .rom) :
    fetchByte s k = .error (.refuse (.fetchOutsideMemory (codeAddr s k))) := by
  dsimp only [fetchByte]
  split
  · contradiction
  · contradiction
  · rfl

/-- Nor from the bank of a register file (10_state.md R22). -/
theorem fetchByte_file (h : inFile s.cfg (codeAddr s k) = true) :
    fetchByte s k = .error (.refuse (.registerFile (codeAddr s k))) := by
  simp [fetchByte, classify_inFile h, h]

/-- Nor, where that is refused, one that a store has changed (R81). -/
theorem fetchByte_changed (hram : classify s.cfg (codeAddr s k) = .ram) (hfile : inFile s.cfg (codeAddr s k) = false)
    (hrefuse : s.cfg.selfModifying = .refuse) (hchanged : (codeAddr s k).toNat ∈ s.changed) :
    fetchByte s k = .error (.refuse (.selfModifiedCode (codeAddr s k))) := by
  simp [fetchByte, hram, hfile, hrefuse, hchanged]

/-! ## The bytes of an instruction -/

/-- The fetch stops at the first of its two or four bytes that cannot be fetched. -/
theorem fetchBytes_stops {e : Stop} (hk : k < (if lengthOf (s.mem.get (codeAddr s 0).toNat) = 2 then 2 else 4))
    (hbefore : ∀ j, j < k → Fetchable s j) (hstop : fetchByte s k = .error e) : fetchBytes s = .error e := by
  have hok : ∀ j, j < k → fetchByte s j = .ok (s.mem.get (codeAddr s j).toNat) :=
    fun j hj => fetchByte_fetchable (hbefore j hj)
  have hlong : 2 ≤ k → lengthOf (s.mem.get (codeAddr s 0).toNat) ≠ 2 := by
    intro h2 hlen
    rw [if_pos hlen] at hk
    omega
  have h4 : k < 4 := by
    split at hk <;> omega
  unfold fetchBytes
  match k, h4 with
  | 0, _ => simp [hstop, bind, Except.bind]
  | 1, _ => simp [hok 0, hstop, bind, Except.bind]
  | 2, _ => simp [hok 0, hok 1, hlong, hstop, bind, Except.bind]
  | 3, _ => simp [hok 0, hok 1, hok 2, hlong, hstop, bind, Except.bind]

/-! ## The step of a fetch that stops -/

/-- With nothing due and an even IP, what stops the bytes stops the step. -/
theorem step_fetch_refused {r : Refusal} (hq : Quiet s) (heven : s.ip.getLsbD 0 = false)
    (h : fetchBytes s = .error (.refuse r)) : step s = .refused r := by
  have hfetch : fetchInstr s = .error (.refuse r) := by
    unfold fetchInstr
    rw [heven]
    simp [h, bind, Except.bind]
  simp only [step_quiet hq, runNext, hfetch]

/-- With nothing due, a class B event of the fetch is raised. -/
theorem step_fetch_raises {e : ClassB} (hq : Quiet s) (h : fetchInstr s = .error (.trap e)) :
    step s = mapNext endStep (raiseClassB e { s with lastWrites := [] }) := by
  simp only [step_quiet hq, runNext, h]

/-- An odd IP (44_call_jump_return.md R290). -/
theorem fetchInstr_odd (h : s.ip.getLsbD 0 = true) :
    fetchInstr s = .error (.trap (.illegalInstructionAccess s.ip)) := by
  unfold fetchInstr
  rw [if_pos h]

/-- At an even IP the bytes decide. -/
theorem fetchInstr_even {bytes : List Byte} (h : s.ip.getLsbD 0 = false) (hbytes : fetchBytes s = .ok bytes) :
    fetchInstr s = instrOf s.cfg.device bytes := by
  unfold fetchInstr
  rw [h]
  simp [hbytes, bind, Except.bind]

end Sys2Proof.Machine

namespace Sys2Proof.Proofs

open Sys2Proof.Machine

/-- Settles O18: a quiet step is its fetch, which stops at the first byte that cannot be fetched, or at the decoder's
word. -/
theorem fetchStops : Obligations.FetchStops := by
  refine ⟨fun s hq => ⟨fun hodd => step_fetch_raises hq (fetchInstr_odd hodd), fun heven bytes hbytes => ?raises⟩,
    fun s k hq heven hk hbefore => ?refuses⟩
  case raises =>
    have hfetch := fetchInstr_even heven hbytes
    refine ⟨fun b0 b1 hd => ?_, fun b0 b1 b2 b3 hd => ?_, fun i b0 b1 tail hd hlist hwf => ?_⟩
    · exact step_fetch_raises hq (hfetch.trans (by simp [instrOf, hd]))
    · exact step_fetch_raises hq (hfetch.trans (by simp [instrOf, hd]))
    · subst hlist
      exact step_fetch_raises hq (hfetch.trans (by simp [instrOf, hd, hwf]))
  case refuses =>
    have hstops : ∀ r, fetchByte s k = .error (.refuse r) → step s = .refused r :=
      fun r hr => step_fetch_refused hq heven (fetchBytes_stops hk hbefore hr)
    exact ⟨fun hram hrom => hstops _ (fetchByte_outside hram hrom), fun hfile => hstops _ (fetchByte_file hfile),
      fun hram hfile hrefuse hchanged => hstops _ (fetchByte_changed hram hfile hrefuse hchanged)⟩

end Sys2Proof.Proofs
end

section
/-! SUPPORT. Multiplication and division on a register bank in RAM (46_mul_div.md R330 to R338). -/

namespace Sys2Proof.Machine

/-! ## The products -/

/-- A product of two signed WORDs lies between -2 ^ 30 and 2 ^ 30. -/
theorem signedProduct_bounds (a b : Word) : -2 ^ 30 ≤ a.toInt * b.toInt ∧ a.toInt * b.toInt ≤ 2 ^ 30 := by
  have ha : |a.toInt| ≤ 2 ^ 15 := abs_le.2 ⟨BitVec.le_toInt a, Int.le_of_lt a.toInt_lt⟩
  have hb : |b.toInt| ≤ 2 ^ 15 := abs_le.2 ⟨BitVec.le_toInt b, Int.le_of_lt b.toInt_lt⟩
  have hab := mul_le_mul ha hb (abs_nonneg _) (by decide)
  rw [← abs_mul] at hab
  exact abs_le.1 hab

/-- A product of two unsigned WORDs fits 32 bits. -/
theorem unsignedProduct_lt (a b : Word) : a.toNat * b.toNat < 2 ^ 32 :=
  lt_of_lt_of_eq (Nat.mul_lt_mul'' a.isLt b.isLt) (by norm_num)

/-- The number in MD is the product, so its sign is the product's (R335). -/
theorem ofInt_toInt_of_bounds {p : Int} (h : -2 ^ 30 ≤ p ∧ p ≤ 2 ^ 30) : (BitVec.ofInt 32 p).toInt = p :=
  BitVec.toInt_ofInt_eq_self (by decide) (by omega) (by omega)

/-- MUL's Z, V and N by the product itself (R335). -/
theorem signedProduct_flags (a b : Word) :
    decide ((signedProduct a b).1 = 0) = decide (a.toInt * b.toInt = 0) ∧
    (!(signedProduct a b).2) = decide (a.toInt * b.toInt < -32768 ∨ 32767 < a.toInt * b.toInt) ∧
    (signedProduct a b).1.msb = decide (a.toInt * b.toInt < 0) := by
  have hmd : (signedProduct a b).1.toInt = a.toInt * b.toInt := ofInt_toInt_of_bounds (signedProduct_bounds a b)
  have hfits : (signedProduct a b).2 =
      (decide (-32768 ≤ a.toInt * b.toInt) && decide (a.toInt * b.toInt ≤ 32767)) := rfl
  refine ⟨decide_eq_decide.2 ?_, ?_, ?_⟩
  · rw [← BitVec.toInt_inj, hmd]
    rfl
  · rw [hfits, Bool.not_and, ← decide_not, ← decide_not, ← Bool.decide_or, decide_eq_decide]
    omega
  · rw [BitVec.msb_eq_toInt, hmd]

/-- MULU's Z, V and N by the product itself (R336). -/
theorem unsignedProduct_flags (a b : Word) :
    decide ((unsignedProduct a b).1 = 0) = decide (a.toNat * b.toNat = 0) ∧
    (!(unsignedProduct a b).2) = decide (0xFFFF < a.toNat * b.toNat) ∧
    (unsignedProduct a b).1.msb = decide (2 ^ 31 ≤ a.toNat * b.toNat) := by
  have hmd : (unsignedProduct a b).1.toNat = a.toNat * b.toNat :=
    (BitVec.toNat_ofNat _ _).trans (Nat.mod_eq_of_lt (unsignedProduct_lt a b))
  have hfits : (unsignedProduct a b).2 = decide (a.toNat * b.toNat ≤ 0xFFFF) := rfl
  refine ⟨decide_eq_decide.2 ?_, ?_, ?_⟩
  · rw [← BitVec.toNat_inj, hmd]
    rfl
  · rw [hfits, ← decide_not, decide_eq_decide]
    omega
  · rw [BitVec.msb_eq_decide, hmd]

/-- The state after a multiplication: the product in MD, V as given, Z and N the product's, a draw in MDC. -/
def multiplied (p : BitVec 32) (v : Bool) (s : State) : State :=
  { s with
    mdh := p.extractLsb' 16 16, mdl := p.extractLsb' 0 16, mdc := Config.freeWord s.draws, draws := s.draws + 1,
    psw := withFlags s.cfg.psw s.psw ⟨false, decide (p = 0), v, false, p.msb⟩, ip := s.ip + 2 }

/-- MUL multiplies signed WORDs (R335). -/
theorem exec_mulRwRw (n m : BitVec 4) (s : State) :
    exec (.mulRwRw n m) s = finish s (multiply signedProduct n m s) := rfl

/-- MULU multiplies unsigned WORDs (R336). -/
theorem exec_muluRwRw (n m : BitVec 4) (s : State) :
    exec (.muluRwRw n m) s = finish s (multiply unsignedProduct n m s) := rfl

/-- MDC takes a draw (10_state.md R30). -/
theorem drawMdc_eq (s : State) : s.drawMdc = { s with mdc := Config.freeWord s.draws, draws := s.draws + 1 } := rfl

/-- MD and MDC, then the flags, then IP. -/
theorem multiplied_eq (p : BitVec 32) (v : Bool) (s : State) :
    ((s.drawMdc.setMd (p.extractLsb' 16 16) (p.extractLsb' 0 16)).setFlags
      ⟨false, decide (p = 0), v, false, p.msb⟩).advance 2 = multiplied p v s := by
  rw [drawMdc_eq]
  rfl

/-- A multiplication on a bank in RAM: the product to MD, the flags, a draw to MDC. -/
theorem multiply_bank {s : State} (h : BankInRam s) (product : Word → Word → BitVec 32 × Bool) (n m : BitVec 4) :
    multiply product n m s =
      .ok (multiplied (product (gprWord n s) (gprWord m s)).1 (!(product (gprWord n s) (gprWord m s)).2) s) := by
  simp only [multiply, readGpr_bank h, bind, Except.bind, multiplied_eq]

/-! ## The quotients -/

/-- A division's outcome has MDL, MDH and the flags as given, and MDC, the draws and IP moved on. -/
def dividedTo (s : State) (mdl mdh mdc : Word) (d : Nat) (f : Flags) : State :=
  { s with mdl := mdl, mdh := mdh, mdc := mdc, draws := d, psw := withFlags s.cfg.psw s.psw f, ip := s.ip + 2 }

/-- The flags of a quotient that fits (R331 to R334). -/
def quotientFlags (q : Word) : Flags := ⟨false, decide (q = 0), false, false, q.msb⟩

/-- A quotient stored after MDC and the draws have moved on. -/
theorem setQuotient_advance (s : State) (q r mdc : Word) (d : Nat) :
    (({ s with mdc := mdc, draws := d } : State).setQuotient q r).advance 2 =
      dividedTo s q r mdc d (quotientFlags q) := rfl

/-- An open rounding stores a quotient and a remainder all the same (D11). -/
theorem divisionOpen_advance (s : State) (mdc : Word) (d : Nat) :
    ∃ q r d', (divisionOpen { s with mdc := mdc, draws := d }).advance 2 =
      dividedTo s q r mdc d' (quotientFlags q) :=
  ⟨Config.freeWord d, Config.freeWord (d + 1), d + 2, rfl⟩

/-- A division without a quotient stores draws and sets V (D12). -/
theorem divisionUndefined_advance (s : State) (mdc : Word) (d : Nat) :
    ∃ mdh mdl d' z neg, (divisionUndefined { s with mdc := mdc, draws := d }).advance 2 =
      dividedTo s mdl mdh mdc d' ⟨false, z, true, false, neg⟩ :=
  ⟨Config.freeWord (d + 1), Config.freeWord d, d + 4, Config.freeBit (d + 2), Config.freeBit (d + 3), rfl⟩

variable {s : State} {op : DivOp} {n : BitVec 4}

/-- A quotient that fits and does not depend on the rounding, or is truncated, is stored (R338). -/
theorem divide_fits (h : BankInRam s) {q r : Word} (hresult : op.result s.mdh s.mdl (gprWord n s) = some (q, r))
    (hround : s.cfg.divRounding = .truncate ∨ op.inexact s.mdh s.mdl (gprWord n s) = false) :
    ∃ mdc d, divide op n s = .ok (dividedTo s q r mdc d (quotientFlags q)) := by
  have hdrawn : (decide (s.cfg.divRounding = .draw) && op.inexact s.mdh s.mdl (gprWord n s)) = false := by
    rcases hround with ht | hexact
    · simp [ht]
    · simp [hexact]
  simp only [divide, readGpr_bank h, bind, Except.bind, hresult, hdrawn, drawMdc_eq, Bool.false_eq_true, if_false]
  exact ⟨_, _, congrArg Except.ok (setQuotient_advance s q r _ _)⟩

/-- One whose rounding is left open is drawn, with its remainder (R338, D11). -/
theorem divide_open (h : BankInRam s) (hresult : op.result s.mdh s.mdl (gprWord n s) ≠ none)
    (hdraw : s.cfg.divRounding = .draw) (hinexact : op.inexact s.mdh s.mdl (gprWord n s) = true) :
    ∃ q r mdc d, divide op n s = .ok (dividedTo s q r mdc d (quotientFlags q)) := by
  obtain ⟨⟨q, r⟩, hqr⟩ := Option.ne_none_iff_exists'.1 hresult
  obtain ⟨q', r', d, hopen⟩ := divisionOpen_advance s (Config.freeWord s.draws) (s.draws + 1)
  simp only [divide, readGpr_bank h, bind, Except.bind, hqr, hdraw, hinexact, drawMdc_eq, decide_true, Bool.and_self,
    if_true]
  exact ⟨q', r', _, d, congrArg Except.ok hopen⟩

/-- Without a quotient that fits V is set and the result is drawn (R338, D12). -/
theorem divide_undefined (h : BankInRam s) (hresult : op.result s.mdh s.mdl (gprWord n s) = none) :
    ∃ mdh mdl mdc d z neg, divide op n s = .ok (dividedTo s mdl mdh mdc d ⟨false, z, true, false, neg⟩) := by
  obtain ⟨mdh, mdl, d, z, neg, hnone⟩ := divisionUndefined_advance s (Config.freeWord s.draws) (s.draws + 1)
  simp only [divide, readGpr_bank h, bind, Except.bind, hresult, drawMdc_eq]
  exact ⟨mdh, mdl, _, d, z, neg, congrArg Except.ok hnone⟩

/-- Which divisions the rounding decides: operands of different signs, and the division inexact (D11). -/
theorem signedInexact_iff (a d : Int) : signedInexact a d = true ↔ a * d < 0 ∧ ¬ d ∣ a := by
  simp [signedInexact, Int.dvd_iff_tmod_eq_zero]

/-- The division instruction of an operation. -/
def DivOp.instr (op : DivOp) (n : BitVec 4) : Instr :=
  match op with
  | .div => .div n
  | .divl => .divl n
  | .divu => .divu n
  | .divlu => .divlu n

/-- A division instruction is its operation. -/
theorem exec_division (op : DivOp) (n : BitVec 4) (s : State) : exec (op.instr n) s = finish s (divide op n s) := by
  cases op <;> rfl

end Sys2Proof.Machine

namespace Sys2Proof.Proofs

open Sys2Proof.Machine

/-- Settles O54: the product to MD, and its flags read off the product itself. -/
theorem multiplyResult : Obligations.MultiplyResult := by
  intro s n m hbank
  refine ⟨?signed, ?unsigned⟩
  case signed =>
    intro p
    obtain ⟨hz, hv, hn⟩ := signedProduct_flags (gprWord n s) (gprWord m s)
    refine ⟨Config.freeWord s.draws, s.draws + 1, ?_⟩
    rw [exec_mulRwRw, multiply_bank hbank, multiplied, hz, hv, hn]
    rfl
  case unsigned =>
    intro p
    obtain ⟨hz, hv, hn⟩ := unsignedProduct_flags (gprWord n s) (gprWord m s)
    refine ⟨Config.freeWord s.draws, s.draws + 1, ?_⟩
    rw [exec_muluRwRw, multiply_bank hbank, multiplied, hz, hv, hn]
    rfl

/-- Settles O55: the four instructions are one operation, whose outcome its result and its rounding decide. -/
theorem divideResult : Obligations.DivideResult := by
  intro s n i result rounded hbank hform
  have hop : ∃ op : DivOp, i = op.instr n ∧ result = op.result s.mdh s.mdl (gprWord n s) ∧
      (rounded ↔ op.inexact s.mdh s.mdl (gprWord n s) = true) := by
    rcases hform with ⟨rfl, rfl, rfl⟩ | ⟨rfl, rfl, rfl⟩ | ⟨rfl, rfl, rfl⟩ | ⟨rfl, rfl, rfl⟩
    · exact ⟨.div, rfl, rfl, (signedInexact_iff _ _).symm⟩
    · exact ⟨.divu, rfl, rfl, by simp [DivOp.inexact]⟩
    · exact ⟨.divl, rfl, rfl, (signedInexact_iff _ _).symm⟩
    · exact ⟨.divlu, rfl, rfl, by simp [DivOp.inexact]⟩
  obtain ⟨op, rfl, rfl, hrounded⟩ := hop
  rw [exec_division, hrounded]
  refine ⟨fun q r hresult hround => ?_, fun hresult hdraw hinexact => ?_, fun hresult => ?_⟩
  · obtain ⟨mdc, d, h⟩ := divide_fits hbank hresult (hround.imp_right (Bool.eq_false_iff.2 ·))
    exact ⟨mdc, d, by rw [h]; rfl⟩
  · obtain ⟨q, r, mdc, d, h⟩ := divide_open hbank hresult hdraw hinexact
    exact ⟨q, r, mdc, d, by rw [h]; rfl⟩
  · obtain ⟨mdh, mdl, mdc, d, z, neg, h⟩ := divide_undefined hbank hresult
    exact ⟨mdh, mdl, mdc, d, z, neg, by rw [h]; rfl⟩

end Sys2Proof.Proofs
end

section
/-! SUPPORT. What a store into RAM changes and notes (20_memory.md R63, R66, R67, R81). -/

namespace Sys2Proof.Machine

/-- The set of addresses with one more. -/
theorem mem_insertAddr (a b : Nat) (l : List Nat) : b ∈ insertAddr a l ↔ b = a ∨ b ∈ l := by
  induction l with
  | nil => simp [insertAddr]
  | cons x l ih =>
    unfold insertAddr
    split
    · exact List.mem_cons
    · split
      · rename_i hax
        simp [hax]
      · rw [List.mem_cons, List.mem_cons, ih]
        exact or_left_comm

variable {s : State}

/-- A stored BYTE notes its address iff it changes the byte there (R81). -/
theorem mem_storeByte_changed (h : s.mem.wf = true) (a b : Nat) (v : Byte) :
    b ∈ (s.storeByte a v).changed ↔ b ∈ s.changed ∨ (s.storeByte a v).mem.get b ≠ s.mem.get b := by
  simp only [State.storeByte]
  by_cases hb : b = a
  · subst hb
    rw [Memory.get_set_same _ _ _ h]
    split
    · rename_i hv
      simp [hv]
    · rename_i hv
      simp [mem_insertAddr, Ne.symm hv]
  · rw [Memory.get_set_other _ _ hb]
    split <;> simp [mem_insertAddr, hb]

/-- A stored WORD notes those of its two addresses whose byte it changes (R81). -/
theorem mem_storeWord_changed (h : s.mem.wf = true) (a b : Nat) (v : Word) :
    b ∈ (s.storeWord a v).changed ↔ b ∈ s.changed ∨ (s.storeWord a v).mem.get b ≠ s.mem.get b := by
  have hlow : (s.storeByte a (v.extractLsb' 0 8)).mem.wf = true := Memory.set_wf _ _ _ h
  rw [State.storeWord, mem_storeByte_changed hlow, mem_storeByte_changed h]
  by_cases hb : b = a
  · have hkept : ((s.storeByte a (v.extractLsb' 0 8)).storeByte (a + 1) (v.extractLsb' 8 8)).mem.get b =
        (s.storeByte a (v.extractLsb' 0 8)).mem.get b := Memory.get_set_other _ _ (by omega)
    rw [hkept]
    simp
  · have hkept : (s.storeByte a (v.extractLsb' 0 8)).mem.get b = s.mem.get b := Memory.get_set_other _ _ hb
    rw [hkept]
    simp

/-- A WORD stored into RAM. -/
theorem storedW_ram {pa : PhysAddr} (hc : classify s.cfg pa = .ram) (v : Word) :
    storedW pa v s = s.storeWord pa.toNat v := by
  simp [storedW, hc]

/-- A BYTE stored into RAM. -/
theorem storedB_ram {pa : PhysAddr} (hc : classify s.cfg pa = .ram) (v : Byte) :
    storedB pa v s = s.storeByte pa.toNat v := by
  simp [storedB, hc]

/-- A WORD of RAM. -/
theorem loadedW_ram {pa : PhysAddr} (hc : classify s.cfg pa = .ram) : loadedW pa s = (s.mem.getWord pa.toNat, s) := by
  simp [loadedW, hc]

/-- A BYTE of RAM. -/
theorem loadedB_ram {pa : PhysAddr} (hc : classify s.cfg pa = .ram) : loadedB pa s = (s.mem.get pa.toNat, s) := by
  simp [loadedB, hc]

end Sys2Proof.Machine

namespace Sys2Proof.Proofs

open Sys2Proof.Machine

/-- Settles O58, by the laws of memory: a store into RAM is one or two bytes set. -/
theorem ramAccess : Obligations.RamAccess := by
  intro pa s hram hwf
  refine ⟨fun v t h => ?word, fun v t h => ?byte⟩
  case word =>
    obtain ⟨hstop, rfl⟩ := (memWriteW_ok pa v s t).1 h
    obtain ⟨haccess, -⟩ := writeStop_none _ _ _ _ hstop
    have hlow : (s.mem.set pa.toNat (v.extractLsb' 0 8)).wf = true := Memory.set_wf _ _ _ hwf
    rw [storedW_ram hram]
    refine ⟨(memReadW_ok ..).2 ⟨haccess, ?_⟩, ?_, Memory.get_set_same _ _ _ hlow,
      fun a hfirst hsecond => Memory.get_setWord_other _ v hfirst hsecond, Memory.set_wf _ _ _ hlow, rfl,
      fun a => mem_storeWord_changed hwf _ a v⟩
    · rw [loadedW_ram (s := s.storeWord pa.toNat v) hram, State.storeWord_mem, Memory.getWord_set_same _ _ _ hwf]
    · rw [State.storeWord_mem, Memory.get_set_other _ _ (by omega), Memory.get_set_same _ _ _ hwf]
  case byte =>
    obtain ⟨hstop, rfl⟩ := (memWriteB_ok pa v s t).1 h
    obtain ⟨haccess, -⟩ := writeStop_none _ _ _ _ hstop
    rw [storedB_ram hram]
    refine ⟨(memReadB_ok ..).2 ⟨haccess, ?_⟩, fun a ha => Memory.get_set_other _ v ha, Memory.set_wf _ _ _ hwf, rfl,
      fun a => mem_storeByte_changed hwf _ a v⟩
    rw [loadedB_ram (s := s.storeByte pa.toNat v) hram, State.storeByte_mem, Memory.get_set_same _ _ _ hwf]

end Sys2Proof.Proofs
end

section
/-! SUPPORT. A WORD operand at an odd address stops the instruction, whose outcome is then the class B event raised from
the state before it (20_memory.md R65; 60_exceptions.md R408). -/

namespace Sys2Proof.Machine

/-! ## The forms and their operations -/

/-- A WORD form of the arithmetic, logic and compare groups runs its group. -/
theorem exec_aluWordForm {i : Instr} {op : AluOp} {dst : Loc} {src : Src 16} (h : aluWordForm i = some (op, dst, src))
    (s : State) : exec i s = finish s (aluW op dst src i.length s) := by
  cases i <;> cases h <;> rfl

/-- CMPI1, CMPI2, CMPD1, CMPD2 are one operation. -/
theorem exec_compareForm {i : Instr} {δ : Word} {n : BitVec 4} {src : Src 16} (h : compareForm i = some (δ, n, src))
    (s : State) : exec i s = finish s (compareStep δ n src i.length s) := by
  cases i <;> cases h <;> rfl

/-- The MOV forms are one operation. -/
theorem exec_moveWordForm {i : Instr} {dst : Loc} {src : Src 16} (h : moveWordForm i = some (dst, src)) (s : State) :
    exec i s = finish s (moveW dst src i.length s) := by
  cases i <;> cases h <;> rfl

/-- MOVBS and MOVBSZ are one operation. -/
theorem exec_extendForm {i : Instr} {x : Extension} {dst : Loc} {src : Src 8} (h : extendForm i = some (x, dst, src))
    (s : State) : exec i s = finish s (moveExtend x dst src i.length s) := by
  cases i <;> cases h <;> rfl

/-! ## Accesses at an odd address -/

variable {s : State} {pa : PhysAddr}

/-- The stop of a WORD access at an odd address (R65). -/
def misaligned (pa : PhysAddr) : Stop := .trap (.illegalWordOperandAccess pa)

/-- An instruction stopped there raises the event from the state it began in. -/
theorem finish_misaligned {r : Res State} (h : r = .error (misaligned pa)) :
    finish s r = raiseClassB (.illegalWordOperandAccess pa) s := by
  rw [h]
  rfl

/-- A WORD read at an odd address. -/
theorem memReadW_odd (h : pa.getLsbD 0 = true) : memReadW pa s = .error (misaligned pa) := by
  simp [memReadW, accessStop_odd h, misaligned]

/-- A WORD destination at an odd address. -/
theorem writeDstW_odd (h : pa.getLsbD 0 = true) (v : Word) : writeDstW pa v s = .error (misaligned pa) := by
  simp [writeDstW, memWriteW_stopped (writeStop_of_accessStop (accessStop_odd h s.cfg)), misaligned, bind, Except.bind]

/-- A WORD destination at an odd address is not written, so there is no post-increment. -/
theorem putDstW_odd (h : pa.getLsbD 0 = true) (dst : Loc) (v : Word) :
    putDstW dst pa v s = .error (misaligned pa) := by
  simp [putDstW, writeDstW_odd h, bind, Except.bind]

/-- A WORD source operand at an odd address is not read, so there is no post-increment. -/
theorem readSrcW_odd {l : Loc} {u : State} (haddr : l.addr .word s = .ok (pa, u)) (h : pa.getLsbD 0 = true) :
    readSrcW (.loc l) s = .error (misaligned pa) := by
  simp [readSrcW, haddr, memReadW_odd h, bind, Except.bind]

/-! ## Instructions with an operand at an odd address -/

variable {dst l : Loc} {src : Src 16}

/-- op1 of an arithmetic, logic or compare form (40_arith_logic.md R169). -/
theorem aluW_odd_destination (hbank : BankInRam s) (hodd : (effAddr dst .word s).getLsbD 0 = true) (op : AluOp)
    (src : Src 16) (len : Nat) : aluW op dst src len s = .error (misaligned (effAddr dst .word s)) := by
  simp [aluW, addr_bank hbank, memReadW_odd hodd, bind, Except.bind]

/-- A WORD read keeps every operand's address. -/
theorem effAddr_loadedW (l : Loc) (w : Width) (pa : PhysAddr) (s : State) :
    effAddr l w (loadedW pa s).2 = effAddr l w s := by
  rw [loadedW_same]
  exact (effAddr_congr l w s _ _ s.flags).1

/-- op2 of such a form, op1 being readable. -/
theorem aluW_odd_source (hbank : BankInRam s) (hdst : accessStop .word (effAddr dst .word s) s.cfg = none)
    (hodd : (effAddr l .word s).getLsbD 0 = true) (op : AluOp) (len : Nat) :
    aluW op dst (.loc l) len s = .error (misaligned (effAddr l .word s)) := by
  have hread := (memReadW_ok (effAddr dst .word s) s _).2 ⟨hdst, rfl⟩
  obtain ⟨hcp, hcfg, -⟩ := loadedW_cp_cfg (effAddr dst .word s) s
  have haddr := addr_bank (hbank.congr hcp hcfg) l .word
  rw [effAddr_loadedW] at haddr
  simp [aluW, addr_bank hbank, hread, readSrcW_odd haddr hodd, bind, Except.bind]

/-- The `mem` operand of CMPI1, CMPI2, CMPD1, CMPD2 (R153 to R156). -/
theorem compareStep_odd (hbank : BankInRam s) (hodd : (effAddr l .word s).getLsbD 0 = true) (δ : Word) (n : BitVec 4)
    (len : Nat) : compareStep δ n (.loc l) len s = .error (misaligned (effAddr l .word s)) := by
  simp [compareStep, readGpr_bank hbank, readSrcW_odd (addr_bank hbank l .word) hodd, bind, Except.bind]

/-- The source of a MOV (47_data_move.md R359). -/
theorem moveW_odd_source (hbank : BankInRam s) (hodd : (effAddr l .word s).getLsbD 0 = true) (dst : Loc) (len : Nat) :
    moveW dst (.loc l) len s = .error (misaligned (effAddr l .word s)) := by
  simp [moveW, addr_bank hbank, readSrcW_odd (addr_bank hbank l .word) hodd, bind, Except.bind]

/-- A source operand read keeps the bank in RAM. -/
theorem sourceW_bank (hbank : BankInRam s) (src : Src 16) : BankInRam (sourceW src s).2 := by
  rw [sourceW_same]
  exact hbank.congr rfl rfl

/-- The destination of a MOV, its source being readable (R359). -/
theorem moveW_odd_destination (hbank : BankInRam s) (hsrc : sourceStop .word src s = none)
    (hodd : (effAddr dst .word s).getLsbD 0 = true) (len : Nat) :
    moveW dst src len s = .error (misaligned (effAddr dst .word s)) := by
  simp [moveW, addr_bank hbank, readSrcW_bank hbank src hsrc, before_bank (sourceW_bank hbank src), putDstW_odd hodd,
    bind, Except.bind]

/-- The destination of MOVBS and MOVBSZ, their source being readable (R359). -/
theorem moveExtend_odd (hbank : BankInRam s) {src : Src 8} (hsrc : sourceStop .byte src s = none)
    (hodd : (effAddr dst .word s).getLsbD 0 = true) (x : Extension) (len : Nat) :
    moveExtend x dst src len s = .error (misaligned (effAddr dst .word s)) := by
  simp [moveExtend, addr_bank hbank, readSrcB_bank hbank src hsrc, writeDstW_odd hodd, bind, Except.bind]

/-- The `mem` operand of SCXT, its register being readable (R357). -/
theorem switchContext_odd {r : Byte} {a : Word} (hreg : accessStop .word (regAddr r .word s) s.cfg = none)
    (hodd : (dataAddr a s).getLsbD 0 = true) :
    switchContext r (.loc (.mem a)) s = .error (misaligned (dataAddr a s)) := by
  have hread := (memReadW_ok (regAddr r .word s) s _).2 ⟨hreg, rfl⟩
  have hmem : dataAddr a (loadedW (regAddr r .word s) s).2 = dataAddr a s := effAddr_loadedW (.mem a) .word _ s
  have haddr : (Loc.mem a).addr .word (loadedW (regAddr r .word s) s).2 =
      .ok (dataAddr a s, (loadedW (regAddr r .word s) s).2) := by
    rw [Loc.addr, hmem]
  simp [switchContext, hread, readSrcW_odd haddr hodd, bind, Except.bind]

end Sys2Proof.Machine

namespace Sys2Proof.Proofs

open Sys2Proof.Machine

/-- Settles O34: in each form the odd operand is the first access that stops, so the instruction is its event raised
from the state before. -/
theorem oddWordAccessTraps : Obligations.OddWordAccessTraps := by
  refine ⟨fun i op dst src s hform hbank => ⟨fun hodd => ?aluDestination, fun hdst => ?aluSource⟩,
    fun i δ n a s hform hbank hodd => ?compare,
    fun i dst src s hform hbank => ⟨?moveSource, fun hsrc hodd => ?moveDestination⟩,
    fun i x dst src s hform hbank hsrc hodd => ?extend, fun r a s hreg hodd => ?switchContext⟩
  case aluDestination =>
    rw [exec_aluWordForm hform]
    exact finish_misaligned (aluW_odd_destination hbank hodd op src _)
  case aluSource =>
    rintro l rfl hodd
    rw [exec_aluWordForm hform]
    exact finish_misaligned (aluW_odd_source hbank hdst hodd op _)
  case compare =>
    rw [exec_compareForm hform]
    exact finish_misaligned (compareStep_odd (l := .mem a) hbank hodd δ n _)
  case moveSource =>
    rintro l rfl hodd
    rw [exec_moveWordForm hform]
    exact finish_misaligned (moveW_odd_source hbank hodd dst _)
  case moveDestination =>
    rw [exec_moveWordForm hform]
    exact finish_misaligned (moveW_odd_destination hbank hsrc hodd _)
  case extend =>
    rw [exec_extendForm hform]
    exact finish_misaligned (moveExtend_odd hbank hsrc hodd x _)
  case switchContext => exact finish_misaligned (switchContext_odd hreg hodd)

end Sys2Proof.Proofs
end

section
/-! SUPPORT. The stack in RAM (20_memory.md R75; 60_exceptions.md R409). -/

namespace Sys2Proof.Machine

/-! ## The checks -/

/-- The check after a push changes TFR and the request alone (R409). -/
theorem checkOverflow_eq (s : State) :
    s.checkOverflow = { s with
      tfr := s.checkOverflow.tfr,
      pending := { s.pending with stackOverflow := s.pending.stackOverflow || decide (s.sp < s.stkov) } } := by
  unfold State.checkOverflow State.requestStackOverflow
  split
  · rename_i h
    obtain ⟨v, hv⟩ := noteTrap_state s s.cfg.trapTable.stackOverflow.flag
    simp [hv, h]
  · rename_i h
    simp [h]

/-- The check after a pop changes TFR and the request alone (R409). -/
theorem checkUnderflow_eq (s : State) :
    s.checkUnderflow = { s with
      tfr := s.checkUnderflow.tfr,
      pending := { s.pending with stackUnderflow := s.pending.stackUnderflow || decide (s.stkun < s.sp) } } := by
  unfold State.checkUnderflow State.requestStackUnderflow
  split
  · rename_i h
    obtain ⟨v, hv⟩ := noteTrap_state s s.cfg.trapTable.stackUnderflow.flag
    simp [hv, h]
  · rename_i h
    simp [h]

@[simp] theorem checkOverflow_cfg (s : State) : s.checkOverflow.cfg = s.cfg := by rw [checkOverflow_eq]
@[simp] theorem checkOverflow_sp (s : State) : s.checkOverflow.sp = s.sp := by rw [checkOverflow_eq]
@[simp] theorem checkOverflow_mem (s : State) : s.checkOverflow.mem = s.mem := by rw [checkOverflow_eq]
@[simp] theorem checkOverflow_pending (s : State) : s.checkOverflow.pending =
    { s.pending with stackOverflow := s.pending.stackOverflow || decide (s.sp < s.stkov) } := by rw [checkOverflow_eq]

@[simp] theorem checkUnderflow_sp (s : State) : s.checkUnderflow.sp = s.sp := by rw [checkUnderflow_eq]
@[simp] theorem checkUnderflow_mem (s : State) : s.checkUnderflow.mem = s.mem := by rw [checkUnderflow_eq]
@[simp] theorem checkUnderflow_pending (s : State) : s.checkUnderflow.pending =
    { s.pending with stackUnderflow := s.pending.stackUnderflow || decide (s.stkun < s.sp) } := by
  rw [checkUnderflow_eq]

/-! ## Where the stack lies -/

variable {s : State} {n : Nat}

/-- The stack is in segment 0 (R75). -/
theorem stackAddr_toNat (sp : Word) : (stackAddr sp).toNat = sp.toNat := segmentZero_toNat sp

/-- The stack's addresses as numbers. -/
theorem stackAddr_eq (sp : Word) : stackAddr sp = BitVec.ofNat 24 sp.toNat := by
  rw [← stackAddr_toNat, BitVec.ofNat_toNat, BitVec.setWidth_eq]

/-- An even SP names an even address. -/
theorem stackAddr_aligned {sp : Word} (h : sp.getLsbD 0 = false) : Aligned .word (stackAddr sp) := by
  intro _
  simpa only [BitVec.getLsbD, stackAddr_toNat] using h

/-- With room for a push SP is 2 at least. -/
theorem StackRoom.two_le (h : StackRoom (n + 1) s) : 2 ≤ s.sp.toNat := by
  obtain ⟨-, hroom, -⟩ := h
  omega

/-- So lowered it does not wrap. -/
theorem StackRoom.sp_toNat (h : StackRoom (n + 1) s) : (s.sp - 2).toNat = s.sp.toNat - 2 := by
  have hlow := h.two_le
  bv_omega

/-- With room for a push the WORD below SP is RAM. -/
theorem StackRoom.classify_top (h : StackRoom (n + 1) s) : classify s.cfg (stackAddr (s.sp - 2)) = .ram := by
  have hsp := h.sp_toNat
  obtain ⟨-, hroom, hram⟩ := h
  have htop := hram (2 * n) (by omega)
  rwa [show s.sp.toNat - 2 * (n + 1) + 2 * n = (s.sp - 2).toNat by omega, ← stackAddr_eq] at htop

/-- After a push there is room for one WORD less. -/
theorem StackRoom.below {u : State} (h : StackRoom (n + 1) s) (hsp : u.sp = s.sp - 2) (hcfg : u.cfg = s.cfg) :
    StackRoom n u := by
  have htop := h.sp_toNat
  obtain ⟨heven, hroom, hram⟩ := h
  rw [StackRoom, hsp, hcfg, htop]
  refine ⟨even_sub_two heven, by omega, fun k hk => ?_⟩
  have hk' := hram k (by omega)
  rwa [show s.sp.toNat - 2 * (n + 1) + k = s.sp.toNat - 2 - 2 * n + k by omega] at hk'

/-- With a WORD to pop the WORD at SP is RAM. -/
theorem StackHolds.classify_top (h : StackHolds (n + 1) s) : classify s.cfg (stackAddr s.sp) = .ram := by
  obtain ⟨-, -, hram⟩ := h
  rw [stackAddr_eq]
  exact hram 0 (by omega)

/-! ## Push and Pop -/

/-- A push that answers is one that nothing stops. -/
theorem push_ok {v : Word} {t : State} : push v s = .ok t ↔ pushStop v s = none ∧ pushed v s = t := by
  have hstop : writeStop .word (stackAddr (s.sp - 2)) v { s with sp := s.sp - 2 } = pushStop v s :=
    writeStop_congr _ _ _ rfl rfl
  rw [← hstop]
  simp [push, Res.bind_ok, memWriteW_ok, pushed, and_assoc]

/-- Nothing stops a push into RAM. -/
theorem StackRoom.pushStop (h : StackRoom (n + 1) s) (v : Word) : pushStop v s = none :=
  writeStop_plain (stackAddr_aligned (even_sub_two h.1)) (.inl h.classify_top)

/-- A push into RAM: SP lowered, the WORD stored there, then the check. -/
theorem StackRoom.pushed_eq (h : StackRoom (n + 1) s) (v : Word) :
    pushed v s = (({ s with sp := s.sp - 2 } : State).storeWord (s.sp.toNat - 2) v).checkOverflow := by
  rw [pushed, storedW_ram (s := { s with sp := s.sp - 2 }) h.classify_top, stackAddr_toNat, h.sp_toNat]

/-- SP after a push into RAM. -/
theorem StackRoom.pushed_sp (h : StackRoom (n + 1) s) (v : Word) : (pushed v s).sp = s.sp - 2 := by
  rw [h.pushed_eq, checkOverflow_sp, State.storeWord_sp]

/-- Memory after a push into RAM. -/
theorem StackRoom.pushed_mem (h : StackRoom (n + 1) s) (v : Word) :
    (pushed v s).mem =
      (s.mem.set (s.sp.toNat - 2) (v.extractLsb' 0 8)).set (s.sp.toNat - 2 + 1) (v.extractLsb' 8 8) := by
  rw [h.pushed_eq, checkOverflow_mem, State.storeWord_mem]

/-- A push into RAM keeps the parameters. -/
theorem StackRoom.pushed_cfg (h : StackRoom (n + 1) s) (v : Word) : (pushed v s).cfg = s.cfg := by
  rw [h.pushed_eq, checkOverflow_cfg, State.storeWord_cfg]

/-- The requests after a push into RAM (R409). -/
theorem StackRoom.pushed_pending (h : StackRoom (n + 1) s) (v : Word) :
    (pushed v s).pending =
      { s.pending with stackOverflow := s.pending.stackOverflow || decide (s.sp - 2 < s.stkov) } := by
  rw [h.pushed_eq, checkOverflow_pending, State.storeWord_pending, State.storeWord_sp, State.storeWord_stkov]

/-- The WORD pushed into RAM lies at the new SP (R75). -/
theorem StackRoom.stackWord_pushed (h : StackRoom (n + 1) s) (hwf : s.mem.wf = true) (v : Word) :
    stackWord 0 (pushed v s) = v := by
  rw [stackWord, h.pushed_sp, h.sp_toNat, h.pushed_mem]
  exact Memory.getWord_set_same _ _ _ hwf

/-- No other byte has changed. -/
theorem StackRoom.pushed_mem_other (h : StackRoom (n + 1) s) (v : Word) {a : Nat} (hlow : a ≠ s.sp.toNat - 2)
    (hhigh : a ≠ s.sp.toNat - 1) : (pushed v s).mem.get a = s.mem.get a := by
  have hroom := h.two_le
  rw [h.pushed_mem]
  exact Memory.get_setWord_other _ _ hlow (by omega)

/-- Nothing stops a pop from RAM. -/
theorem StackHolds.popStop (h : StackHolds (n + 1) s) : popStop s = none := by
  rw [Machine.popStop, accessStop_aligned (stackAddr_aligned h.1), h.classify_top]
  rfl

/-- A pop from RAM: the WORD at SP, and SP raised with its check. -/
theorem popped_ram (h : classify s.cfg (stackAddr s.sp) = .ram) :
    popped s = (stackWord 0 s, ({ s with sp := s.sp + 2 } : State).checkUnderflow) := by
  simp [popped, loadedW_ram h, stackAddr_toNat, stackWord]

/-- A pop takes back what a push into RAM has put there. -/
theorem StackRoom.popped_pushed (h : StackRoom (n + 1) s) (hwf : s.mem.wf = true) (v : Word) :
    (popped (pushed v s)).1 = v ∧ (popped (pushed v s)).2.sp = s.sp := by
  have hram : classify (pushed v s).cfg (stackAddr (pushed v s).sp) = .ram := by
    rw [h.pushed_cfg, h.pushed_sp]
    exact h.classify_top
  rw [popped_ram hram]
  refine ⟨h.stackWord_pushed hwf v, ?_⟩
  rw [checkUnderflow_sp]
  show (pushed v s).sp + 2 = s.sp
  rw [h.pushed_sp]
  exact BitVec.sub_add_cancel _ _

end Sys2Proof.Machine

namespace Sys2Proof.Proofs

open Sys2Proof.Machine

/-- Settles O45: a push into RAM is a WORD stored and SP lowered, a pop is the WORD read and SP raised, and the check
after each changes no more than TFR and its request. -/
theorem pushPopEffect : Obligations.PushPopEffect := by
  intro s v hwf
  refine ⟨fun hroom => ?push, fun hholds => ?pop⟩
  case push =>
    exact ⟨hroom.pushStop v, hroom.pushed_sp v, hroom.stackWord_pushed hwf v, fun a => hroom.pushed_mem_other v,
      hroom.pushed_pending v, hroom.popped_pushed hwf v⟩
  case pop =>
    rw [popped_ram hholds.classify_top, checkUnderflow_sp, checkUnderflow_mem, checkUnderflow_pending]
    exact ⟨hholds.popStop, rfl, rfl, rfl, rfl⟩

end Sys2Proof.Proofs
end

section
/-! SUPPORT. What reads leave alone: all but MDC.MDRIU and the draws (10_state.md R30; 20_memory.md R66). -/

namespace Sys2Proof.Machine

/-- From `s` to `u` nothing has been done but reads: MDC.MDRIU and the draws may have changed. -/
def ReadsOnly (s u : State) : Prop :=
  ∃ mdc d, u = { s with mdc := mdc, draws := d } ∧ mdc &&& 0xFFEF = s.mdc &&& 0xFFEF

/-- No read at all. -/
theorem ReadsOnly.refl (s : State) : ReadsOnly s s := ⟨s.mdc, s.draws, rfl, rfl⟩

/-- Reads after reads. -/
theorem ReadsOnly.trans {s u t : State} (h : ReadsOnly s u) (h' : ReadsOnly u t) : ReadsOnly s t := by
  obtain ⟨m, d, rfl, hm⟩ := h
  obtain ⟨m', d', rfl, hm'⟩ := h'
  exact ⟨m', d', rfl, hm'.trans hm⟩

/-- A WORD read is no more. -/
theorem loadedW_readsOnly (pa : PhysAddr) (s : State) : ReadsOnly s (loadedW pa s).2 := by
  rcases loadedW_state pa s with h | h | h <;> rw [h]
  · exact .refl s
  · exact ⟨s.mdc &&& 0xFFEF, s.draws, rfl, by rw [BitVec.and_assoc, BitVec.and_self]⟩
  · exact ⟨s.mdc, s.draws + 1, rfl, rfl⟩

/-- A BYTE read is no more. -/
theorem loadedB_readsOnly (pa : PhysAddr) (s : State) : ReadsOnly s (loadedB pa s).2 := by
  rcases loadedB_state pa s with h | h | h <;> rw [h]
  · exact .refl s
  · exact ⟨s.mdc &&& 0xFFEF, s.draws, rfl, by rw [BitVec.and_assoc, BitVec.and_self]⟩
  · exact ⟨s.mdc, s.draws + 1, rfl, rfl⟩

/-- The same where the read answers. -/
theorem memReadW_readsOnly {pa : PhysAddr} {s : State} {x : Word × State} (h : memReadW pa s = .ok x) :
    ReadsOnly s x.2 := by
  rw [← ((memReadW_ok pa s x).1 h).2]
  exact loadedW_readsOnly pa s

end Sys2Proof.Machine
end

section
/-! SUPPORT. What the pushing instructions leave alone when the stack lies in RAM (20_memory.md R75;
44_call_jump_return.md R272 to R275, R284, R289; 47_data_move.md R356). -/

namespace Sys2Proof.Machine

/-! ## Pushes in a row -/

/-- From `s` to `u` there have been reads and pushes into RAM, and CSP has become `csp`: below the old SP and from the
new one up lies what was pushed, and a push may have requested StackOverflow. -/
structure PushesOnly (csp : Word) (s u : State) : Prop where
  rest : u = { s with
    csp := csp, sp := u.sp, mdc := u.mdc, draws := u.draws, pending := u.pending, tfr := u.tfr, mem := u.mem,
    changed := u.changed }
  sp_le : u.sp.toNat ≤ s.sp.toNat
  mdc : u.mdc &&& 0xFFEF = s.mdc &&& 0xFFEF
  pending : u.pending = { s.pending with stackOverflow := u.pending.stackOverflow }
  mem : ∀ a, (a < u.sp.toNat ∨ s.sp.toNat ≤ a) → u.mem.get a = s.mem.get a

variable {csp csp' : Word} {s u t : State} {n : Nat}

/-- Room for a WORD more is room. -/
theorem StackRoom.less (h : StackRoom (n + 1) s) : StackRoom n s := by
  obtain ⟨heven, hlow, hram⟩ := h
  refine ⟨heven, by omega, fun k hk => ?_⟩
  have hk' := hram (k + 2) (by omega)
  rwa [show s.sp.toNat - 2 * (n + 1) + (k + 2) = s.sp.toNat - 2 * n + k by omega] at hk'

/-- Reads leave the room for pushes. -/
theorem ReadsOnly.stackRoom (h : ReadsOnly s u) (hroom : StackRoom n s) : StackRoom n u := by
  obtain ⟨m, d, rfl, -⟩ := h
  exact hroom

/-- Reads alone. -/
theorem PushesOnly.of_readsOnly (h : ReadsOnly s u) : PushesOnly s.csp s u := by
  obtain ⟨m, d, rfl, hm⟩ := h
  exact ⟨rfl, Nat.le_refl _, hm, rfl, fun _ _ => rfl⟩

/-- Pushes after pushes. -/
theorem PushesOnly.trans (h : PushesOnly csp s u) (h' : PushesOnly csp' u t) : PushesOnly csp' s t where
  rest := by
    rw [h'.rest, h.rest]
  sp_le := h'.sp_le.trans h.sp_le
  mdc := h'.mdc.trans h.mdc
  pending := by
    rw [h'.pending, h.pending]
  mem a ha := (h'.mem a (by have := h.sp_le; omega)).trans (h.mem a (by have := h'.sp_le; omega))

/-- A push that answers, into RAM. -/
theorem push_pushesOnly {v : Word} (hroom : StackRoom (n + 1) s) (h : push v s = .ok t) :
    PushesOnly s.csp s t ∧ StackRoom n t := by
  obtain ⟨-, rfl⟩ := push_ok.1 h
  have hsp := hroom.sp_toNat
  refine ⟨⟨?_, ?_, ?_, ?_, fun a ha => ?_⟩, hroom.below (hroom.pushed_sp v) (hroom.pushed_cfg v)⟩
  · rw [hroom.pushed_eq, checkOverflow_eq]
    rfl
  · rw [hroom.pushed_sp, hsp]
    omega
  · rw [hroom.pushed_eq, checkOverflow_eq]
    rfl
  · rw [hroom.pushed_pending]
  · rw [hroom.pushed_sp, hsp] at ha
    have hlow := hroom.two_le
    exact hroom.pushed_mem_other v (by omega) (by omega)

/-- One push more. -/
theorem PushesOnly.push {v : Word} (h : PushesOnly csp s u) (hroom : StackRoom (n + 1) u) (hv : push v u = .ok t) :
    PushesOnly csp s t ∧ StackRoom n t := by
  have hcsp : u.csp = csp := by rw [h.rest]
  obtain ⟨hpush, hroom'⟩ := push_pushesOnly hroom hv
  rw [hcsp] at hpush
  exact ⟨h.trans hpush, hroom'⟩

/-- CSP pushed, with segmentation enabled, and cleared (60_exceptions.md R401). -/
theorem pushSegment_pushesOnly (hroom : StackRoom (n + 2) s) (h : pushSegment s = .ok t) :
    ∃ csp, PushesOnly csp s t ∧ StackRoom (n + 1) t := by
  unfold pushSegment at h
  split at h
  · cases h
    obtain ⟨heven, hlow, hram⟩ := hroom
    refine ⟨_, .of_readsOnly (.refl s), heven, by omega, fun k hk => ?_⟩
    have hk' := hram (k + 2) (by omega)
    rwa [show s.sp.toNat - 2 * (n + 2) + (k + 2) = s.sp.toNat - 2 * (n + 1) + k by omega] at hk'
  · simp only [Res.bind_ok, Except.ok.injEq] at h
    obtain ⟨u, hu, rfl⟩ := h
    obtain ⟨hpushes, hroom'⟩ := push_pushesOnly hroom hu
    exact ⟨0, { hpushes with rest := by rw [hpushes.rest] }, hroom'⟩

/-! ## The end of an instruction after its pushes -/

/-- What `Obligations.PushFrame` says of instruction `i` from `s` to `t`. -/
def PushFramed (i : Instr) (s t : State) : Prop :=
  t = { s with
    sp := t.sp, ip := t.ip, csp := t.csp, psw := t.psw, mdc := t.mdc, draws := t.draws, pending := t.pending,
    tfr := t.tfr, mem := t.mem, changed := t.changed, frames := t.frames } ∧
  (∃ f, t.psw = withFlags s.cfg.psw s.psw f) ∧ (i.mnemonic ≠ .trap → t.frames = s.frames) ∧
  t.mdc &&& 0xFFEF = s.mdc &&& 0xFFEF ∧
  t.pending = { s.pending with stackOverflow := t.pending.stackOverflow } ∧
  (i.mnemonic ≠ .push → i.mnemonic ≠ .pcall → t.psw = s.psw) ∧
  (i.mnemonic ≠ .calls → i.mnemonic ≠ .trap → t.csp = s.csp) ∧
  ∀ a, (a < t.sp.toNat ∨ s.sp.toNat ≤ a) → t.mem.get a = s.mem.get a

variable {i : Instr}

/-- After its pushes an instruction writes IP, and one by its name CSP, the flags, or the note of the frame. -/
theorem PushesOnly.framed (h : PushesOnly csp s u) (ip : Word) {csp' psw : Word} {frames : List (Word × Bool)}
    (hflags : ∃ f, psw = withFlags s.cfg.psw s.psw f) (hframes : i.mnemonic ≠ .trap → frames = s.frames)
    (hpsw : i.mnemonic ≠ .push → i.mnemonic ≠ .pcall → psw = s.psw)
    (hcsp : i.mnemonic ≠ .calls → i.mnemonic ≠ .trap → csp' = s.csp) :
    PushFramed i s { u with ip := ip, csp := csp', psw := psw, frames := frames } :=
  ⟨by rw [h.rest], hflags, hframes, h.mdc, h.pending, hpsw, hcsp, h.mem⟩

/-- An instruction that leaves the flags, CSP and the frames alone. -/
theorem PushesOnly.framed_jump (h : PushesOnly s.csp s u) (ip : Word) : PushFramed i s (u.jumpTo ip) := by
  have hend : u.jumpTo ip = { u with ip := ip, csp := s.csp, psw := s.psw, frames := s.frames } := by
    rw [h.rest]
    rfl
  rw [hend]
  exact h.framed ip ⟨s.flags, (withFlags_flagsOf s.cfg.psw s.psw).symm⟩ (fun _ => rfl) (fun _ _ => rfl) fun _ _ => rfl

/-- PUSH and PCALL write the flags besides. -/
theorem PushesOnly.framed_flags (h : PushesOnly s.csp s u) (hi : i.mnemonic = .push ∨ i.mnemonic = .pcall) (f : Flags)
    (ip : Word) : PushFramed i s ((u.setFlags f).jumpTo ip) := by
  have hend : (u.setFlags f).jumpTo ip =
      { u with ip := ip, csp := s.csp, psw := withFlags s.cfg.psw s.psw f, frames := s.frames } := by
    rw [h.rest]
    rfl
  rw [hend]
  exact h.framed ip ⟨f, rfl⟩ (fun _ => rfl) (fun hpush hpcall => (hi.elim hpush hpcall).elim) fun _ _ => rfl

/-! ## The instructions -/

/-- CALLA and CALLR (44_call_jump_return.md R272, R274). -/
theorem callTo_framed (hroom : StackRoom (n + 1) s) {cc : Cond} {a : Word} {len : Nat} (h : callTo cc a len s = .ok t) :
    PushFramed i s t := by
  unfold callTo at h
  split at h
  · simp only [Res.bind_ok, Except.ok.injEq] at h
    obtain ⟨u, hu, rfl⟩ := h
    exact (push_pushesOnly hroom hu).1.framed_jump a
  · cases h
    exact (PushesOnly.of_readsOnly (.refl s)).framed_jump _

/-- CALLI (R273). -/
theorem callIndirect_framed (hroom : StackRoom (n + 1) s) {cc : Cond} {m : BitVec 4}
    (h : callIndirect cc m s = .ok t) : PushFramed i s t := by
  unfold callIndirect at h
  split at h
  · simp only [Res.bind_ok, Except.ok.injEq] at h
    obtain ⟨⟨a, u⟩, hu, v, hv, rfl⟩ := h
    have hread : ReadsOnly s u := memReadW_readsOnly hu
    exact ((PushesOnly.of_readsOnly hread).push (hread.stackRoom hroom) hv).1.framed_jump a
  · cases h
    exact (PushesOnly.of_readsOnly (.refl s)).framed_jump _

/-- CALLS (R275). -/
theorem callSegment_framed (hi : i.mnemonic = .calls) (hroom : StackRoom (n + 2) s) {sg : Byte} {a : Word}
    (h : callSegment sg a s = .ok t) : PushFramed i s t := by
  simp only [callSegment, Res.bind_ok, Except.ok.injEq] at h
  obtain ⟨u, hu, v, hv, rfl⟩ := h
  obtain ⟨hfirst, hroom'⟩ := push_pushesOnly hroom hu
  obtain ⟨hpushes, -⟩ := hfirst.push hroom' hv
  have hend : jumpSegment sg a v =
      { v with ip := a, csp := maskSeg v.cfg.device (sg.setWidth 16), psw := s.psw, frames := s.frames } := by
    rw [hpushes.rest]
    rfl
  rw [hend]
  exact hpushes.framed a ⟨s.flags, (withFlags_flagsOf s.cfg.psw s.psw).symm⟩ (fun _ => rfl) (fun _ _ => rfl)
    fun hcalls => absurd hi hcalls

/-- PCALL (R284). -/
theorem pushCall_framed (hi : i.mnemonic = .pcall) (hroom : StackRoom (n + 2) s) {r : Byte} {a : Word}
    (h : pushCall r a s = .ok t) : PushFramed i s t := by
  simp only [pushCall, Res.bind_ok, Except.ok.injEq] at h
  obtain ⟨⟨x, u⟩, hu, v, hv, w, hw, rfl⟩ := h
  have hread : ReadsOnly s u := memReadW_readsOnly hu
  obtain ⟨hfirst, hroom'⟩ := (PushesOnly.of_readsOnly hread).push (hread.stackRoom hroom) hv
  exact (hfirst.push hroom' hw).1.framed_flags (.inr hi) _ a

/-- PUSH (47_data_move.md R356). -/
theorem pushReg_framed (hi : i.mnemonic = .push) (hroom : StackRoom (n + 1) s) {r : Byte} (h : pushReg r s = .ok t) :
    PushFramed i s t := by
  simp only [pushReg, Res.bind_ok, Except.ok.injEq] at h
  obtain ⟨⟨x, u⟩, hu, v, hv, rfl⟩ := h
  have hread : ReadsOnly s u := memReadW_readsOnly hu
  exact ((PushesOnly.of_readsOnly hread).push (hread.stackRoom hroom) hv).1.framed_flags (.inl hi) _ _

/-- TRAP (44_call_jump_return.md R289). -/
theorem enterTrap_framed (hi : i.mnemonic = .trap) (hroom : StackRoom (n + 3) s) {k : BitVec 7} {ret : Word}
    (h : enterTrap k ret none s = .ok t) : PushFramed i s t := by
  simp only [enterTrap, Res.bind_ok, Except.ok.injEq] at h
  obtain ⟨u, hu, v, hv, w, hw, rfl⟩ := h
  obtain ⟨hfirst, hroom₁⟩ := push_pushesOnly hroom hu
  obtain ⟨csp, hsegment, hroom₂⟩ := pushSegment_pushesOnly hroom₁ hv
  obtain ⟨hpushes, -⟩ := (hfirst.trans hsegment).push hroom₂ hw
  have hend : (w.noteFrame u.sgtdis).jumpTo (4 * k.setWidth 16) =
      { w with ip := 4 * k.setWidth 16, csp := w.csp, psw := s.psw, frames := (w.noteFrame u.sgtdis).frames } := by
    rw [hpushes.rest]
    rfl
  rw [hend]
  exact hpushes.framed _ ⟨s.flags, (withFlags_flagsOf s.cfg.psw s.psw).symm⟩ (fun htrap => absurd hi htrap)
    (fun _ _ => rfl) fun _ htrap => absurd hi htrap

/-- An instruction that was not undone has answered. -/
theorem finish_ok_of_not_trapped {r : Res State} (h : finish s r = .next t) (hn : ¬ trapped s t) : r = .ok t := by
  rcases finish_next s t r h with hok | ⟨e, -, -, ht⟩
  · exact hok
  · exact absurd ⟨e, ht⟩ hn

end Sys2Proof.Machine

namespace Sys2Proof.Proofs

open Sys2Proof.Machine

/-- Settles O46, by the seven instructions: reads and pushes in a row, then IP and what each is named for. -/
theorem pushFrame : Obligations.PushFrame := by
  intro i s t hi _ hroom h hn
  change PushFramed i s t
  cases i with
  | push => exact pushReg_framed rfl hroom (finish_ok_of_not_trapped h hn)
  | calla => exact callTo_framed hroom (finish_ok_of_not_trapped h hn)
  | calli => exact callIndirect_framed hroom (finish_ok_of_not_trapped h hn)
  | callr => exact callTo_framed hroom (finish_ok_of_not_trapped h hn)
  | calls => exact callSegment_framed rfl hroom (finish_ok_of_not_trapped h hn)
  | pcall => exact pushCall_framed rfl hroom (finish_ok_of_not_trapped h hn)
  | trap => exact enterTrap_framed rfl hroom (finish_ok_of_not_trapped h hn)
  | _ => simp [Instr.mnemonic] at hi

end Sys2Proof.Proofs
end

section
/-! SUPPORT. What a register or bit instruction may change: each of its updates keeps the frame `OnlyWrites`, and its
class B events come from accesses at odd addresses (20_memory.md R65, R74; 43_bit.md R243 to R252). -/

namespace Sys2Proof.Machine

/-! ## The updates of an instruction -/

variable {w : Width} {target : Option PhysAddr} {pointers : List (BitVec 4)} {s u t : State}

/-- The flags written twice are the flags written last. -/
theorem withFlags_withFlags (l : PswLayout) (x : Word) (f g : Flags) :
    withFlags l (withFlags l x f) g = withFlags l x g := by
  apply BitVec.eq_of_getLsbD_eq
  intro j hj
  simp only [withFlags, getLsbD_withBit, hj, and_true]
  repeat' split
  all_goals rfl

/-- Reads stay in every frame. -/
theorem ReadsOnly.onlyWrites (h : ReadsOnly s u) : OnlyWrites w target pointers s u := by
  obtain ⟨m, d, rfl, hm⟩ := h
  exact ⟨rfl, rfl, .inl rfl, .inl rfl, .inl rfl, .inl rfl, .inl ⟨s.flags, (withFlags_flagsOf _ _).symm⟩, .inl rfl,
    .inl rfl, .inl hm, fun _ => .inl rfl, .inl rfl, .inl rfl, .inl rfl, rfl, rfl, rfl, rfl, rfl, rfl, rfl, rfl, rfl,
    fun _ _ _ => rfl⟩

/-- The flags stay in every frame. -/
theorem OnlyWrites.setFlags (h : OnlyWrites w target pointers s u) (f : Flags) :
    OnlyWrites w target pointers s (u.setFlags f) :=
  { h with
    psw := by
      refine h.psw.imp_left ?_
      rintro ⟨g, hg⟩
      exact ⟨f, by rw [State.setFlags_psw, h.cfg, hg, withFlags_withFlags]⟩ }

/-- IP stays in every frame. -/
theorem OnlyWrites.advance (h : OnlyWrites w target pointers s u) (len : Nat) :
    OnlyWrites w target pointers s (u.advance len) :=
  { h with }

/-- The note for the hazard rule stays in every frame. -/
theorem OnlyWrites.noteWrite (h : OnlyWrites w target pointers s u) (pa : PhysAddr) (before : State) :
    OnlyWrites w target pointers s (u.noteWrite pa before) := by
  unfold State.noteWrite
  split <;> exact { h with }

/-! ## The write of a destination -/

/-- MDRIU set is no other bit of MDC (10_state.md R30). -/
theorem markMdInUse_mdc (s : State) : s.markMdInUse.mdc &&& 0xFFEF = s.mdc &&& 0xFFEF := by
  refine and_eq_and_of_bits fun j _ hj => ?_
  rw [getLsbD_markMdInUse]
  have hne : j ≠ 4 := by
    rintro rfl
    exact absurd hj (by decide)
  simp [hne]

/-- A DPP register written changes the DPP registers alone. -/
theorem setDpp_state (s : State) (k : BitVec 2) (v : Word) :
    ∃ a b c d, s.setDpp k v = { s with dpp0 := a, dpp1 := b, dpp2 := c, dpp3 := d } := by
  unfold State.setDpp
  split <;> exact ⟨_, _, _, _, rfl⟩

/-- A DPP register written leaves the others. -/
theorem setDpp_dpp_other (s : State) {k j : BitVec 2} (hj : j ≠ k) (v : Word) : (s.setDpp k v).dpp j = s.dpp j := by
  have hcases : ∀ x : BitVec 2, x = 0 ∨ x = 1 ∨ x = 2 ∨ x = 3 := by decide
  rcases hcases k with rfl | rfl | rfl | rfl <;> rcases hcases j with rfl | rfl | rfl | rfl <;>
    simp_all [State.dpp, State.setDpp]

variable {pa : PhysAddr}

/-- A core register written is the target's. -/
theorem OnlyWrites.storedCore (h : OnlyWrites w (some pa) pointers s u) {r : CoreReg}
    (hr : classify s.cfg pa = .core r) (v : Word) : OnlyWrites w (some pa) pointers s (storedCore r v u) := by
  have hnames : names s.cfg (some pa) r := ⟨pa, rfl, hr⟩
  have hmarked : u.markMdInUse.mdc &&& 0xFFEF = s.mdc &&& 0xFFEF ∨ names s.cfg (some pa) .mdc :=
    h.mdc.imp_left (markMdInUse_mdc u).trans
  cases r with
  | dpp k =>
    have hdpp : ∀ j, (u.setDpp k v).dpp j = s.dpp j ∨ names s.cfg (some pa) (.dpp j) := fun j => by
      by_cases hj : j = k
      · exact .inr (hj ▸ hnames)
      · rw [setDpp_dpp_other u hj]
        exact h.dpp j
    obtain ⟨a, b, c, d, hset⟩ := setDpp_state u k v
    rw [hset] at hdpp
    rw [Machine.storedCore, hset]
    exact { h with dpp := hdpp }
  | mdh => exact { h with mdh := .inr hnames, mdc := hmarked }
  | mdl => exact { h with mdl := .inr hnames, mdc := hmarked }
  | cp => exact { h with cp := .inr hnames }
  | sp => exact { h with sp := .inr hnames }
  | stkov => exact { h with stkov := .inr hnames }
  | stkun => exact { h with stkun := .inr hnames }
  | mdc => exact { h with mdc := .inr hnames }
  | psw => exact { h with psw := .inr hnames }
  | syscon => exact { h with syscon := .inr hnames }
  | tfr => exact { h with tfr := .inr hnames }
  | wdtcon => exact { h with wdtcon := .inr hnames }
  | csp | zeros | ones | wdt => exact h

/-- Bytes of the target stored or driven. -/
theorem OnlyWrites.memory (h : OnlyWrites w (some pa) pointers s u) {m : Memory} {changed : List Nat}
    (hm : ∀ a, ¬ footprint s.cfg w pa a → m.get a = u.mem.get a) :
    OnlyWrites w (some pa) pointers s { u with mem := m, changed := changed } :=
  { h with mem := fun a ha hp => (hm a (ha pa rfl)).trans (h.mem a ha hp) }

/-- A WORD written to the target. -/
theorem OnlyWrites.storedW (h : OnlyWrites .word (some pa) pointers s u) (v : Word) :
    OnlyWrites .word (some pa) pointers s (storedW pa v u) := by
  have hword : ∀ a, ¬ footprint s.cfg .word pa a →
      ((u.mem.set pa.toNat (v.extractLsb' 0 8)).set (pa.toNat + 1) (v.extractLsb' 8 8)).get a = u.mem.get a :=
    fun a ha => Memory.get_setWord_other _ v (fun hlow => ha (.inl hlow)) fun hhigh => ha (.inr hhigh)
  unfold Machine.storedW
  rw [h.cfg]
  split
  · rename_i r hr
    exact h.storedCore hr v
  · exact h.memory hword
  · exact h.memory hword

/-- A BYTE written to the target. -/
theorem OnlyWrites.storedB (h : OnlyWrites .byte (some pa) pointers s u) (v : Byte) :
    OnlyWrites .byte (some pa) pointers s (storedB pa v u) := by
  have hbyte : ∀ a, ¬ footprint s.cfg .byte pa a → (u.mem.set pa.toNat v).get a = u.mem.get a :=
    fun a ha => Memory.get_set_other _ v fun hsame => ha (.inl hsame)
  unfold Machine.storedB
  rw [h.cfg]
  split
  · rename_i r hr
    exact h.storedCore hr _
  · split
    · rename_i harea
      exact h.memory fun a ha => Memory.get_setWord_other _ _ (fun hlow => ha (.inr ⟨harea, .inl hlow⟩))
        fun hhigh => ha (.inr ⟨harea, .inr hhigh⟩)
    · exact h.memory hbyte
  · exact h.memory hbyte

/-! ## Answers and class B events -/

/-- The operation answers with what `P` holds of, and raises a class B event only where `raises` holds. -/
def Yields {α : Type} (raises : Prop) (P : α → Prop) (r : Res α) : Prop :=
  match r with
  | .ok a => P a
  | .error (.trap _) => raises
  | .error (.refuse _) => True

variable {raises : Prop}

/-- Two operations in sequence. -/
theorem Yields.bind {α β : Type} {P : α → Prop} {Q : β → Prop} {r : Res α} {f : α → Res β} (h : Yields raises P r)
    (hf : ∀ a, P a → Yields raises Q (f a)) : Yields raises Q (r >>= f) := by
  match r with
  | .ok a => exact hf a h
  | .error (.trap _) => exact h
  | .error (.refuse _) => trivial

/-- An instruction that gives a next state has answered, or was undone by a class B event. -/
theorem Yields.next_or_trapped {P : State → Prop} {r : Res State} (h : Yields raises P r) (ht : finish s r = .next t) :
    (raises ∧ trapped s t) ∨ P t := by
  rcases finish_next s t r ht with rfl | ⟨e, rfl, -, rfl⟩
  · exact .inr h
  · exact .inl ⟨h, e, rfl⟩

/-- Where no event is raised it has answered. -/
theorem Yields.next {P : State → Prop} {r : Res State} (h : Yields False P r) (ht : finish s r = .next t) : P t :=
  (h.next_or_trapped ht).resolve_left fun hn => hn.1

/-- Only a WORD access at an odd address raises an event (20_memory.md R65). -/
theorem accessStop_trap {c : Config} {e : ClassB} (h : accessStop w pa c = some (.trap e)) :
    w = .word ∧ pa.getLsbD 0 = true := by
  unfold accessStop at h
  split at h
  · assumption
  · split at h <;> cases h

/-- So does only a WORD written to one. -/
theorem writeStop_trap {v : Word} {e : ClassB} (h : writeStop w pa v s = some (.trap e)) :
    w = .word ∧ pa.getLsbD 0 = true := by
  unfold writeStop at h
  split at h
  · rename_i ha
    rw [h] at ha
    exact accessStop_trap ha
  · split at h
    · cases h
    · simp at h
    · cases h

/-- A WORD read. -/
theorem memReadW_yields (hodd : pa.getLsbD 0 = true → raises) :
    Yields raises (fun x => ReadsOnly s x.2) (memReadW pa s) := by
  unfold memReadW
  split
  · rename_i e he
    cases e with
    | trap e => exact hodd (accessStop_trap he).2
    | refuse r => trivial
  · exact loadedW_readsOnly pa s

/-- A WORD destination written. -/
theorem writeDstW_yields (hodd : pa.getLsbD 0 = true → raises) (h : OnlyWrites .word (some pa) pointers s u)
    (v : Word) : Yields raises (OnlyWrites .word (some pa) pointers s) (writeDstW pa v u) := by
  unfold writeDstW memWriteW
  split
  · rename_i e he
    cases e with
    | trap e => exact hodd (writeStop_trap he).2
    | refuse r => trivial
  · exact (h.storedW v).noteWrite pa u

/-- A BYTE read raises nothing. -/
theorem memReadB_yields : Yields False (fun x => ReadsOnly s x.2) (memReadB pa s) := by
  unfold memReadB
  split
  · rename_i e he
    cases e with
    | trap e => exact absurd (accessStop_trap he).1 (by decide)
    | refuse r => trivial
  · exact loadedB_readsOnly pa s

/-- A BYTE destination written raises nothing. -/
theorem writeDstB_yields (h : OnlyWrites .byte (some pa) pointers s u) (v : Byte) :
    Yields False (OnlyWrites .byte (some pa) pointers s) (writeDstB pa v u) := by
  unfold writeDstB memWriteB
  split
  · rename_i e he
    cases e with
    | trap e => exact absurd (writeStop_trap he).1 (by decide)
    | refuse r => trivial
  · exact (h.storedB v).noteWrite pa u

/-! ## Operands -/

variable {n m : BitVec 4}

/-- A general register of a bank in RAM lies at no odd address. -/
theorem not_odd_gprAddr (hbank : BankInRam s) (n : BitVec 4) : (gprAddr s n).getLsbD 0 = true → raises :=
  fun h => absurd ((gprAddr_even hbank n).symm.trans h) (by decide)

/-- A general register read. -/
theorem readGpr_yields (hbank : BankInRam s) (n : BitVec 4) :
    Yields raises (fun x => ReadsOnly s x.2) (readGpr n s) :=
  memReadW_yields (not_odd_gprAddr hbank n)

/-- A source operand read that moves no pointer. -/
theorem readSrcW_yields (hbank : BankInRam s) {src : Src 16} (hpointer : src.pointer = [])
    (hodd : ∀ l, src = .loc l → (effAddr l .word s).getLsbD 0 = true → raises) :
    Yields raises (fun x => ReadsOnly s x.2) (readSrcW src s) := by
  cases src with
  | imm v => exact .refl s
  | loc l =>
    have hafter : ∀ u, l.after .word u = .ok u := fun u => by
      cases l with
      | indInc n => cases hpointer
      | _ => rfl
    simp only [readSrcW, addr_bank hbank, hafter]
    exact (memReadW_yields (hodd l rfl)).bind fun x hx => hx

/-- A bit area of the map begins at an odd address; no map of the spec has one (20_memory.md R74). -/
def OddBitArea (c : Config) : Prop :=
  c.bases.bitRam.getLsbD 0 = true ∨ c.bases.bitSfr.getLsbD 0 = true ∨ c.bases.bitEsfr.getLsbD 0 = true

/-- A WORD of an area lies as even as the area. -/
theorem getLsbD_add_twice (b x : PhysAddr) : (b + 2 * x).getLsbD 0 = b.getLsbD 0 := by
  simp only [BitVec.getLsbD, Nat.testBit_zero, decide_eq_decide]
  bv_omega

/-- A bit operand lies at an odd address in such an area only. -/
theorem bitWordAddr_odd (hbank : BankInRam s) {q : Byte} (h : (bitWordAddr q s).getLsbD 0 = true) :
    OddBitArea s.cfg := by
  unfold bitWordAddr at h
  split at h
  · exact not_odd_gprAddr hbank _ h
  · split at h
    · rw [getLsbD_add_twice] at h
      split at h
      · exact .inr (.inr h)
      · exact .inr (.inl h)
    · rw [getLsbD_add_twice] at h
      exact .inl h

end Sys2Proof.Machine
end

section
/-! SUPPORT. The frames of the register and bit instructions (40_arith_logic.md R153 to R160; 41_shift_rotate.md R200,
R202; 43_bit.md R243 to R252). -/

namespace Sys2Proof.Machine

variable {raises : Prop} {s u : State} {n : BitVec 4}

/-! ## Addresses after reads -/

/-- Reads move no general register. -/
theorem ReadsOnly.gprAddr_eq (h : ReadsOnly s u) (n : BitVec 4) : gprAddr u n = gprAddr s n := by
  obtain ⟨m, d, rfl, -⟩ := h
  rfl

/-- Nor the WORD of a bit operand. -/
theorem ReadsOnly.bitWordAddr_eq (h : ReadsOnly s u) (q : Byte) : bitWordAddr q u = bitWordAddr q s := by
  obtain ⟨m, d, rfl, -⟩ := h
  rfl

/-- Reads leave the bank in RAM. -/
theorem ReadsOnly.bankInRam (h : ReadsOnly s u) (hbank : BankInRam s) : BankInRam u := by
  obtain ⟨m, d, rfl, -⟩ := h
  exact hbank

/-! ## The register instructions -/

/-- After its reads an instruction writes the flags, a general register, and IP. -/
theorem ReadsOnly.writeGpr_yields (h : ReadsOnly s u) (hbank : BankInRam s) (n : BitVec 4) (f : Flags) (v : Word)
    (len : Nat) :
    Yields raises (OnlyWrites .word (some (gprAddr s n)) [] s)
      (writeDstW (gprAddr (u.setFlags f) n) v (u.setFlags f) >>= fun t => .ok (t.advance len)) := by
  have haddr : gprAddr (u.setFlags f) n = gprAddr s n := h.gprAddr_eq n
  rw [haddr]
  exact (writeDstW_yields (not_odd_gprAddr hbank n) (h.onlyWrites.setFlags f) v).bind fun t ht => ht.advance len

/-- CMPI1, CMPI2, CMPD1, CMPD2: their op2 alone can be misaligned (40_arith_logic.md R153 to R156). -/
theorem compareStep_yields (hbank : BankInRam s) {src : Src 16} (hsrc : src.pointer = []) (δ : Word) (n : BitVec 4)
    (len : Nat) :
    Yields True (OnlyWrites .word (some (gprAddr s n)) [] s) (compareStep δ n src len s) := by
  refine (readGpr_yields hbank n).bind ?_
  rintro ⟨a, u⟩ (hu : ReadsOnly s u)
  refine (readSrcW_yields (hu.bankInRam hbank) hsrc fun _ _ _ => trivial).bind ?_
  rintro ⟨b, v⟩ (hv : ReadsOnly u v)
  exact (hu.trans hv).writeGpr_yields hbank n _ _ len

/-- The shifts and rotates (41_shift_rotate.md R200). -/
theorem shiftOp_yields (hbank : BankInRam s) {src : Src 16} (hsrc : (∃ v, src = .imm v) ∨ ∃ m, src = .loc (.rw m))
    (op : ShiftOp) (n : BitVec 4) :
    Yields False (OnlyWrites .word (some (gprAddr s n)) [] s) (shiftOp op n src s) := by
  refine (readGpr_yields hbank n).bind ?_
  rintro ⟨a, u⟩ (hu : ReadsOnly s u)
  have hread : Yields False (fun x => ReadsOnly u x.2) (readSrcW src u) := by
    refine readSrcW_yields (hu.bankInRam hbank) ?_ ?_
    · rcases hsrc with ⟨v, rfl⟩ | ⟨m, rfl⟩ <;> rfl
    · rintro l rfl
      rcases hsrc with ⟨v, hv⟩ | ⟨m, hm⟩
      · cases hv
      · cases hm
        exact not_odd_gprAddr (hu.bankInRam hbank) m
  refine hread.bind ?_
  rintro ⟨b, v⟩ (hv : ReadsOnly u v)
  exact (hu.trans hv).writeGpr_yields hbank n _ _ 2

/-- PRIOR (R202). -/
theorem priorOp_yields (hbank : BankInRam s) (n m : BitVec 4) :
    Yields False (OnlyWrites .word (some (gprAddr s n)) [] s) (priorOp n m s) := by
  refine (readGpr_yields hbank m).bind ?_
  rintro ⟨b, u⟩ (hu : ReadsOnly s u)
  exact hu.writeGpr_yields hbank n _ _ 2

/-- CPL and NEG (40_arith_logic.md R157, R159). -/
theorem unaryW_yields (hbank : BankInRam s) (op : UnaryOp) (n : BitVec 4) :
    Yields False (OnlyWrites .word (some (gprAddr s n)) [] s) (unaryW op n s) := by
  refine (readGpr_yields hbank n).bind ?_
  rintro ⟨a, u⟩ (hu : ReadsOnly s u)
  exact hu.writeGpr_yields hbank n _ _ 2

/-- CPLB and NEGB (R158, R160). -/
theorem unaryB_yields (op : UnaryOp) (n : BitVec 4) (s : State) :
    Yields False (OnlyWrites .byte (some (gprByteAddr s n)) [] s) (unaryB op n s) := by
  refine memReadB_yields.bind ?_
  rintro ⟨a, u⟩ (hu : ReadsOnly s u)
  have haddr : gprByteAddr u n = gprByteAddr s n := by
    obtain ⟨m, d, rfl, -⟩ := hu
    rfl
  simp only [haddr]
  exact (writeDstB_yields (hu.onlyWrites.setFlags _) _).bind fun t ht => ht.advance 2

/-! ## The bit instructions -/

/-- The WORD of a bit operand read, after reads. -/
theorem ReadsOnly.readBitWord_yields (h : ReadsOnly s u) (hbank : BankInRam s) (q : Byte) :
    Yields (OddBitArea s.cfg) (fun x => ReadsOnly u x.2) (readBitWord q u) := by
  refine memReadW_yields fun hodd => ?_
  rw [h.bitWordAddr_eq] at hodd
  exact bitWordAddr_odd hbank hodd

/-- After its reads an instruction writes the flags, the WORD of a bit operand, and IP. -/
theorem ReadsOnly.writeBitWord_yields (h : ReadsOnly s u) (hbank : BankInRam s) (q : Byte) (f : Flags) (v : Word)
    (len : Nat) :
    Yields (OddBitArea s.cfg) (OnlyWrites .word (some (bitWordAddr q s)) [] s)
      (writeBitWord q v (u.setFlags f) >>= fun t => .ok (t.advance len)) := by
  have haddr : bitWordAddr q (u.setFlags f) = bitWordAddr q s := h.bitWordAddr_eq q
  rw [writeBitWord, haddr]
  exact (writeDstW_yields (bitWordAddr_odd hbank) (h.onlyWrites.setFlags f) v).bind fun t ht => ht.advance len

/-- BFLDL and BFLDH (43_bit.md R246, R247). -/
theorem bitField_yields (hbank : BankInRam s) (q : Byte) (f : Word → Word) :
    Yields (OddBitArea s.cfg) (OnlyWrites .word (some (bitWordAddr q s)) [] s) (bitField q f s) := by
  refine ((ReadsOnly.refl s).readBitWord_yields hbank q).bind ?_
  rintro ⟨w, u⟩ (hu : ReadsOnly s u)
  exact hu.writeBitWord_yields hbank q _ _ 4

/-- BCLR and BSET (R244, R251). -/
theorem writeBit_yields (hbank : BankInRam s) (v : Bool) (b : BitAddr) :
    Yields (OddBitArea s.cfg) (OnlyWrites .word (some (bitWordAddr b.word s)) [] s) (writeBit v b s) := by
  refine ((ReadsOnly.refl s).readBitWord_yields hbank b.word).bind ?_
  rintro ⟨w, u⟩ (hu : ReadsOnly s u)
  exact hu.writeBitWord_yields hbank b.word _ _ 2

/-- BMOV and BMOVN (R248, R249). -/
theorem moveBit_yields (hbank : BankInRam s) (f : Bool → Bool) (dst src : BitAddr) :
    Yields (OddBitArea s.cfg) (OnlyWrites .word (some (bitWordAddr dst.word s)) [] s) (moveBit f dst src s) := by
  refine ((ReadsOnly.refl s).readBitWord_yields hbank src.word).bind ?_
  rintro ⟨x, u⟩ (hu : ReadsOnly s u)
  refine (hu.readBitWord_yields hbank dst.word).bind ?_
  rintro ⟨w, v⟩ (hv : ReadsOnly u v)
  exact (hu.trans hv).writeBitWord_yields hbank dst.word _ _ 4

/-- BAND, BOR, BXOR, and BCMP, which writes no operand (R243, R245, R250, R252). -/
theorem twoBit_yields (hbank : BankInRam s) (op : BitOp) (dst src : BitAddr) :
    Yields (OddBitArea s.cfg)
      (OnlyWrites .word (if op = .cmp then none else some (bitWordAddr dst.word s)) [] s) (twoBit op dst src s) := by
  refine ((ReadsOnly.refl s).readBitWord_yields hbank dst.word).bind ?_
  rintro ⟨w, u⟩ (hu : ReadsOnly s u)
  refine (hu.readBitWord_yields hbank src.word).bind ?_
  rintro ⟨x, v⟩ (hv : ReadsOnly u v)
  have hreads := hu.trans hv
  by_cases hop : op = .cmp
  · simp only [if_pos hop]
    exact (hreads.onlyWrites.setFlags _).advance 4
  · simp only [if_neg hop]
    exact hreads.writeBitWord_yields hbank dst.word _ _ 4

/-! ## The forms -/

/-- The shifts and rotates are one operation. -/
theorem exec_shiftForm {i : Instr} {op : ShiftOp} {src : Src 16} (h : shiftForm i = some (op, n, src)) (s : State) :
    exec i s = finish s (shiftOp op n src s) := by
  cases i <;> cases h <;> rfl

/-- Their op2 is data or a register. -/
theorem shiftForm_source {i : Instr} {op : ShiftOp} {src : Src 16} (h : shiftForm i = some (op, n, src)) :
    (∃ v, src = .imm v) ∨ ∃ m, src = .loc (.rw m) := by
  cases i <;> cases h <;> simp

/-- op2 of CMPI1, CMPI2, CMPD1, CMPD2 moves no pointer. -/
theorem compareForm_pointer {i : Instr} {δ : Word} {src : Src 16} (h : compareForm i = some (δ, n, src)) :
    src.pointer = [] := by
  cases i <;> cases h <;> rfl

end Sys2Proof.Machine

namespace Sys2Proof.Proofs

open Sys2Proof.Machine

/-- Settles O40: every instruction reads, then writes the flags and its destination; an event is a misaligned access. -/
theorem registerFrame : Obligations.RegisterFrame := by
  intro i s t hbank h
  refine ⟨fun δ n src hform => ?compare, fun op n src hform => ?shift, ?prior, ?unaryWord, ?unaryByte, ?field, ?bit,
    ?compareBits, ?twoBits⟩
  case compare =>
    rw [exec_compareForm hform] at h
    exact ((compareStep_yields hbank (compareForm_pointer hform) δ n _).next_or_trapped h).imp_left And.right
  case shift =>
    rw [exec_shiftForm hform] at h
    exact (shiftOp_yields hbank (shiftForm_source hform) op n).next h
  case prior =>
    rintro n m rfl
    exact (priorOp_yields hbank n m).next h
  case unaryWord =>
    rintro n (rfl | rfl)
    · exact (unaryW_yields hbank .neg n).next h
    · exact (unaryW_yields hbank .cpl n).next h
  case unaryByte =>
    rintro n (rfl | rfl)
    · exact (unaryB_yields .neg n s).next h
    · exact (unaryB_yields .cpl n s).next h
  case field =>
    rintro q m d (rfl | rfl)
    · exact (bitField_yields hbank q (fieldLow m d)).next_or_trapped h
    · exact (bitField_yields hbank q (fieldHigh m d)).next_or_trapped h
  case bit =>
    rintro b (rfl | rfl)
    · exact (writeBit_yields hbank false b).next_or_trapped h
    · exact (writeBit_yields hbank true b).next_or_trapped h
  case compareBits =>
    rintro a b rfl
    exact (twoBit_yields hbank .cmp a b).next_or_trapped h
  case twoBits =>
    rintro a b (rfl | rfl | rfl | rfl | rfl)
    · exact (twoBit_yields hbank .and a b).next_or_trapped h
    · exact (twoBit_yields hbank .or a b).next_or_trapped h
    · exact (twoBit_yields hbank .xor a b).next_or_trapped h
    · exact (moveBit_yields hbank id a b).next_or_trapped h
    · exact (moveBit_yields hbank not a b).next_or_trapped h

end Sys2Proof.Proofs
end

section
/-! SUPPORT. The fields a byte or a page number is made of (30_encoding.md R102, R103). -/

namespace Sys2Proof

theorem eq_ofNat_of_toNat {w k : Nat} {b : BitVec w} (h : b.toNat = k) : b = BitVec.ofNat w k := by
  rw [← h, BitVec.ofNat_toNat, BitVec.setWidth_eq]

theorem eq_nibbles_iff (b : Byte) (x y : BitVec 4) : b = x ++ y ↔ hi4 b = x ∧ lo4 b = y := by
  constructor
  · rintro rfl
    exact ⟨hi4_append x y, lo4_append x y⟩
  · rintro ⟨rfl, rfl⟩
    exact (nibbles_append b).symm

/-- The operand byte of TRAP: the trap number above a bit that must be 0. -/
theorem trapByte_fields (t : BitVec 7) (z : BitVec 1) :
    (t ++ z).extractLsb' 1 7 = t ∧ (t ++ z).extractLsb' 0 1 = z := by revert t z; decide

theorem eq_trapByte_iff (b : Byte) (t : BitVec 7) (z : BitVec 1) :
    b = t ++ z ↔ b.extractLsb' 1 7 = t ∧ b.extractLsb' 0 1 = z := by
  constructor
  · rintro rfl
    exact trapByte_fields t z
  · rintro ⟨rfl, rfl⟩
    revert b
    decide

/-- The operand byte of the columns x8 and x9 has one of three forms. -/
theorem subByte_forms (b : Byte) :
    (∃ (n : BitVec 4) (d : BitVec 3), b = n ++ 0#1 ++ d) ∨ (∃ (n : BitVec 4) (i : BitVec 2), b = n ++ 2#2 ++ i) ∨
    ∃ (n : BitVec 4) (i : BitVec 2), b = n ++ 3#2 ++ i := by
  have h : ∀ b : Byte, b = hi4 b ++ 0#1 ++ b.extractLsb' 0 3 ∨ b = hi4 b ++ 2#2 ++ b.extractLsb' 0 2 ∨
      b = hi4 b ++ 3#2 ++ b.extractLsb' 0 2 := by decide
  exact (h b).imp (fun h => ⟨_, _, h⟩) (Or.imp (fun h => ⟨_, _, h⟩) fun h => ⟨_, _, h⟩)

/-- The byte b1 of a sequence instruction: the selector, the field `irang2`, a register or zeros. -/
theorem sequenceByte_fields (q g : BitVec 2) (m : BitVec 4) :
    (q ++ g ++ m).extractLsb' 6 2 = q ∧ (q ++ g ++ m).extractLsb' 4 2 = g ∧ lo4 (q ++ g ++ m) = m := by
  revert q g m; decide

theorem sequenceByte_eq (b : Byte) : b = b.extractLsb' 6 2 ++ b.extractLsb' 4 2 ++ lo4 b := by revert b; decide

/-- The byte b3 of EXTP and EXTPR: zeros above the two high bits of the page. -/
theorem pageByte_fields (z : BitVec 6) (p : BitVec 2) :
    (z ++ p).extractLsb' 0 2 = p ∧ (z ++ p).extractLsb' 2 6 = z := by revert z p; decide

theorem pageByte_eq (b : Byte) : b = b.extractLsb' 2 6 ++ b.extractLsb' 0 2 := by revert b; decide

theorem page_fields (p : BitVec 2) (b : Byte) : (p ++ b).extractLsb' 0 8 = b ∧ (p ++ b).extractLsb' 8 2 = p := by
  constructor
  · rw [BitVec.extractLsb'_append_eq_of_add_le (by omega)]
    simp
  · rw [BitVec.extractLsb'_append_eq_of_le (by omega)]
    simp

theorem page_append (p : BitVec 10) : p.extractLsb' 8 2 ++ p.extractLsb' 0 8 = p := by
  rw [BitVec.extractLsb'_append_extractLsb'_eq_extractLsb' (by omega)]
  simp

/-! ## What the selector of a sequence instruction chooses (R103 OP_ext, OP_ext_m, OP_ext_seg, OP_ext_pag) -/

theorem selector_cases (q : BitVec 2) : q = 0#2 ∨ q = 1#2 ∨ q = 2#2 ∨ q = 3#2 := by revert q; decide

theorem decodeSequence2_D1 (q g : BitVec 2) (m : BitVec 4) : decodeSequence2 0xD1 (q ++ g ++ m) =
    if q = 0 then fixedBits (m == 0) (.atomic g) else if q = 2 then fixedBits (m == 0) (.extr g) else none := by
  rcases selector_cases q with rfl | rfl | rfl | rfl <;> simp [decodeSequence2, sequenceByte_fields]

theorem decodeSequence2_DC (q g : BitVec 2) (m : BitVec 4) : decodeSequence2 0xDC (q ++ g ++ m) =
    some (if q = 0 then .extsRw m g else if q = 1 then .extpRw m g else if q = 2 then .extsrRw m g
      else .extprRw m g) := by
  rcases selector_cases q with rfl | rfl | rfl | rfl <;> simp [decodeSequence2, sequenceByte_fields]

/-- The byte b3 holds a number of two bits below zeros, as EXTP and EXTPR have it. -/
theorem decodeSequence4_eq (q g p : BitVec 2) (m : BitVec 4) (b2 : Byte) (z : BitVec 6) :
    decodeSequence4 (q ++ g ++ m) b2 (z ++ p) =
      if q = 0 then fixedBits (m == 0 && z ++ p == 0#8) (.extsSeg b2 g)
      else if q = 1 then fixedBits (m == 0 && z == 0) (.extpPag (p ++ b2) g)
      else if q = 2 then fixedBits (m == 0 && z ++ p == 0#8) (.extsrSeg b2 g)
      else fixedBits (m == 0 && z == 0) (.extprPag (p ++ b2) g) := by
  rcases selector_cases q with rfl | rfl | rfl | rfl <;>
    simp [decodeSequence4, sequenceByte_fields, pageByte_fields]

end Sys2Proof
end

section
/-! SUPPORT. Decoding a list of bytes is matching its first two or four with the rows of the instruction table
(30_encoding.md R101, R117). -/

namespace Sys2Proof

open Sys2Proof.Laws

/-- The instruction of the row that the bytes of one instruction match. -/
def rowInstr : List Byte → Option Instr
  | [b0, b1] => decode2 b0 b1
  | [b0, b1, b2, b3] => decode4 b0 b1 b2 b3
  | _ => none

theorem lengthOf_eq (b0 : Byte) : lengthOf b0 = 2 ∨ lengthOf b0 = 4 := by
  unfold lengthOf
  split <;> simp

theorem of2_eq_instr {b0 b1 : Byte} {rest tail : List Byte} {o : Option Instr} {i : Instr} :
    Decoded.of2 b0 b1 tail o = .instr i rest ↔ o = some i ∧ tail = rest := by
  cases o <;> simp [Decoded.of2]

theorem of4_eq_instr {b0 b1 b2 b3 : Byte} {rest tail : List Byte} {o : Option Instr} {i : Instr} :
    Decoded.of4 b0 b1 b2 b3 tail o = .instr i rest ↔ o = some i ∧ tail = rest := by
  cases o
  · simp only [Decoded.of4]
    split <;> simp
  · simp [Decoded.of4]

theorem decode_cons2 {b0 b1 : Byte} (h : lengthOf b0 = 2) (rest : List Byte) :
    decode (b0 :: b1 :: rest) = .of2 b0 b1 rest (decode2 b0 b1) := by
  simp [decode, h]

theorem decode_cons4 {b0 b1 b2 b3 : Byte} (h : lengthOf b0 = 4) (rest : List Byte) :
    decode (b0 :: b1 :: b2 :: b3 :: rest) = .of4 b0 b1 b2 b3 rest (decode4 b0 b1 b2 b3) := by
  simp [decode, h]

/-- Bytes decode to an instruction when they begin with a row's bytes, as many as b0 asks for. -/
theorem decode_append {head : List Byte} {i : Instr} (hlength : head.head?.map lengthOf = some head.length)
    (hrow : rowInstr head = some i) (rest : List Byte) : decode (head ++ rest) = .instr i rest := by
  match head, hrow with
  | [b0, b1], hrow => exact (decode_cons2 (Option.some.inj hlength) rest).trans (of2_eq_instr.2 ⟨hrow, rfl⟩)
  | [b0, b1, b2, b3], hrow => exact (decode_cons4 (Option.some.inj hlength) rest).trans (of4_eq_instr.2 ⟨hrow, rfl⟩)

/-- Bytes that decode to an instruction begin with a row's bytes, as many as b0 asks for. -/
theorem row_of_decode {bytes rest : List Byte} {i : Instr} (h : decode bytes = .instr i rest) :
    ∃ head, bytes = head ++ rest ∧ head.head?.map lengthOf = some head.length ∧ rowInstr head = some i := by
  unfold decode at h
  split at h
  · next b0 b1 _ =>
    split at h
    · next h2 =>
      obtain ⟨hrow, rfl⟩ := of2_eq_instr.1 h
      exact ⟨[b0, b1], rfl, congrArg some h2, hrow⟩
    · next h2 =>
      split at h
      · next b2 b3 _ =>
        obtain ⟨hrow, rfl⟩ := of4_eq_instr.1 h
        exact ⟨[b0, b1, b2, b3], rfl, congrArg some ((lengthOf_eq b0).resolve_left h2), hrow⟩
      · cases h
  · cases h

theorem encodedLength (i : Instr) : EncodedLength.Statement i := by
  cases i with
  | bclr b => exact EncodedLength.bclr b
  | bset b => exact EncodedLength.bset b
  | jmpr cc rel => exact EncodedLength.jmpr cc rel
  | _ => exact ⟨rfl, rfl⟩

end Sys2Proof
end

section
/-! SUPPORT. The bytes of an instruction match its row: one lemma a format (30_encoding.md R103), then every
instruction by its format. -/

namespace Sys2Proof

/-! In each lemma `h` is the row: what the operation code `b0` makes of the bytes after it. -/

theorem rowInstr_nibbles {b0 : Byte} {f : BitVec 4 → BitVec 4 → Instr} (x y : BitVec 4)
    (h : ∀ b1, decode2 b0 b1 = some (f (hi4 b1) (lo4 b1))) : rowInstr [b0, x ++ y] = some (f x y) := by
  simp [rowInstr, h]

theorem rowInstr_condNibble {b0 : Byte} {f : Cond → BitVec 4 → Instr} (cc : Cond) (n : BitVec 4)
    (h : ∀ b1, decode2 b0 b1 = some (f (Cond.ofBits (hi4 b1)) (lo4 b1))) :
    rowInstr [b0, cc.toBits ++ n] = some (f cc n) := by
  simp [rowInstr, h]

theorem rowInstr_sameNibbles {b0 : Byte} {f : BitVec 4 → Instr} (n : BitVec 4)
    (h : ∀ b1, decode2 b0 b1 = fixedBits (hi4 b1 == lo4 b1) (f (hi4 b1))) : rowInstr [b0, n ++ n] = some (f n) := by
  simp [rowInstr, h, fixedBits]

theorem rowInstr_highNibble {b0 : Byte} {f : BitVec 4 → Instr} (n : BitVec 4)
    (h : ∀ b1, decode2 b0 b1 = fixedBits (lo4 b1 == 0) (f (hi4 b1))) : rowInstr [b0, n ++ 0#4] = some (f n) := by
  simp [rowInstr, h, fixedBits]

theorem rowInstr_trapNumber {b0 : Byte} {f : BitVec 7 → Instr} (t : BitVec 7)
    (h : ∀ b1, decode2 b0 b1 = fixedBits (b1.extractLsb' 0 1 == 0) (f (b1.extractLsb' 1 7))) :
    rowInstr [b0, t ++ 0#1] = some (f t) := by
  simp [rowInstr, h, fixedBits, trapByte_fields]

/-- The three forms of the columns x8 and x9. -/
theorem rowInstr_sub {b0 : Byte} {ind indInc : BitVec 4 → BitVec 2 → Instr} {data3 : BitVec 4 → BitVec 3 → Instr}
    (h : ∀ b1, decode2 b0 b1 = some (decodeSub b1 ind indInc data3)) :
    (∀ n i, rowInstr [b0, n ++ 2#2 ++ i] = some (ind n i)) ∧
    (∀ n i, rowInstr [b0, n ++ 3#2 ++ i] = some (indInc n i)) ∧
    ∀ n d, rowInstr [b0, n ++ 0#1 ++ d] = some (data3 n d) := by
  simp [rowInstr, h, decodeSub_ind, decodeSub_indInc, decodeSub_data3]

theorem rowInstr_byteWord {b0 : Byte} {f : Byte → Word → Instr} (r : Byte) (w : Word)
    (h : ∀ b1 b2 b3, decode4 b0 b1 b2 b3 = some (f b1 (field16 b2 b3))) :
    rowInstr [b0, r, lowByte w, highByte w] = some (f r w) := by
  simp [rowInstr, h]

theorem rowInstr_nibblesWord {b0 : Byte} {f : BitVec 4 → BitVec 4 → Word → Instr} (x y : BitVec 4) (w : Word)
    (h : ∀ b1 b2 b3, decode4 b0 b1 b2 b3 = some (f (hi4 b1) (lo4 b1) (field16 b2 b3))) :
    rowInstr [b0, x ++ y, lowByte w, highByte w] = some (f x y w) := by
  simp [rowInstr, h]

theorem rowInstr_lowNibbleWord {b0 : Byte} {c : BitVec 4} {f : BitVec 4 → Word → Instr} (n : BitVec 4) (w : Word)
    (h : ∀ b1 b2 b3, decode4 b0 b1 b2 b3 = fixedBits (hi4 b1 == c) (f (lo4 b1) (field16 b2 b3))) :
    rowInstr [b0, c ++ n, lowByte w, highByte w] = some (f n w) := by
  simp [rowInstr, h, fixedBits]

theorem rowInstr_condWord {b0 : Byte} {f : Cond → Word → Instr} (cc : Cond) (w : Word)
    (h : ∀ b1 b2 b3, decode4 b0 b1 b2 b3 = fixedBits (lo4 b1 == 0) (f (Cond.ofBits (hi4 b1)) (field16 b2 b3))) :
    rowInstr [b0, cc.toBits ++ 0#4, lowByte w, highByte w] = some (f cc w) := by
  simp [rowInstr, h, fixedBits]

theorem rowInstr_twoBits {b0 : Byte} {f : BitAddr → BitAddr → Instr} (dst src : BitAddr)
    (h : ∀ b1 b2 b3, decode4 b0 b1 b2 b3 = some (f ⟨b2, lo4 b3⟩ ⟨b1, hi4 b3⟩)) :
    rowInstr [b0, src.word, dst.word, src.bit ++ dst.bit] = some (f dst src) := by
  simp [rowInstr, h]

theorem rowInstr_bitRel {b0 : Byte} {f : BitAddr → Byte → Instr} (b : BitAddr) (rel : Byte)
    (h : ∀ b1 b2 b3, decode4 b0 b1 b2 b3 = fixedBits (lo4 b3 == 0) (f ⟨b1, hi4 b3⟩ b2)) :
    rowInstr [b0, b.word, rel, b.bit ++ 0#4] = some (f b rel) := by
  simp [rowInstr, h, fixedBits]

/-- Every instruction, by the format of its bytes after b0; the other bytes are all operands or all fixed. -/
theorem rowInstr_encode (i : Instr) : rowInstr (encode i) = some i := by
  cases i with
  | addRwRw x y | addbRbRb x y | addcRwRw x y | addcbRbRb x y | subRwRw x y | subbRbRb x y | subcRwRw x y
  | subcbRbRb x y | cmpRwRw x y | cmpbRbRb x y | xorRwRw x y | xorbRbRb x y | andRwRw x y | andbRbRb x y
  | orRwRw x y | orbRbRb x y | rolRwRw x y | rorRwRw x y | shlRwRw x y | shrRwRw x y | ashrRwRw x y | priorRwRw x y
  | mulRwRw x y | muluRwRw x y | movRwRw x y | movRwInd x y | movRwIndInc x y | movIndRw y x | movIndDecRw y x
  | movIndInd x y | movIndIncInd x y | movIndIndInc x y | movbRbRb x y | movbRbInd x y | movbRbIndInc x y
  | movbIndRb y x | movbIndDecRb y x | movbIndInd x y | movbIndIncInd x y | movbIndIndInc x y | rolRwData4 y x
  | rorRwData4 y x | shlRwData4 y x | shrRwData4 y x | ashrRwData4 y x | cmpi1RwData4 y x | cmpi2RwData4 y x
  | cmpd1RwData4 y x | cmpd2RwData4 y x | movRwData4 y x | movbRbData4 y x | movbsRwRb y x | movbszRwRb y x =>
    apply rowInstr_nibbles x y
    exact fun _ => rfl
  | calli cc n | jmpi cc n =>
    apply rowInstr_condNibble cc n
    exact fun _ => rfl
  | div n | divu n | divl n | divlu n =>
    apply rowInstr_sameNibbles n
    exact fun _ => rfl
  | neg n | cpl n | negb n | cplb n =>
    apply rowInstr_highNibble n
    exact fun _ => rfl
  | addRwInd n i | addbRbInd n i | addcRwInd n i | addcbRbInd n i | subRwInd n i | subbRbInd n i | subcRwInd n i
  | subcbRbInd n i | cmpRwInd n i | cmpbRbInd n i | xorRwInd n i | xorbRbInd n i | andRwInd n i | andbRbInd n i
  | orRwInd n i | orbRbInd n i =>
    exact (rowInstr_sub fun _ => rfl).1 n i
  | addRwIndInc n i | addbRbIndInc n i | addcRwIndInc n i | addcbRbIndInc n i | subRwIndInc n i | subbRbIndInc n i
  | subcRwIndInc n i | subcbRbIndInc n i | cmpRwIndInc n i | cmpbRbIndInc n i | xorRwIndInc n i | xorbRbIndInc n i
  | andRwIndInc n i | andbRbIndInc n i | orRwIndInc n i | orbRbIndInc n i =>
    exact (rowInstr_sub fun _ => rfl).2.1 n i
  | addRwData3 n d | addbRbData3 n d | addcRwData3 n d | addcbRbData3 n d | subRwData3 n d | subbRbData3 n d
  | subcRwData3 n d | subcbRbData3 n d | cmpRwData3 n d | cmpbRbData3 n d | xorRwData3 n d | xorbRbData3 n d
  | andRwData3 n d | andbRbData3 n d | orRwData3 n d | orbRbData3 n d =>
    exact (rowInstr_sub fun _ => rfl).2.2 n d
  | addRegData16 r w | addcRegData16 r w | subRegData16 r w | subcRegData16 r w | cmpRegData16 r w
  | xorRegData16 r w | andRegData16 r w | orRegData16 r w | movRegData16 r w | scxtRegData16 r w | addRegMem r w
  | addMemReg w r | addbRegMem r w | addbMemReg w r | addcRegMem r w | addcMemReg w r | addcbRegMem r w
  | addcbMemReg w r | subRegMem r w | subMemReg w r | subbRegMem r w | subbMemReg w r | subcRegMem r w
  | subcMemReg w r | subcbRegMem r w | subcbMemReg w r | cmpRegMem r w | cmpbRegMem r w | xorRegMem r w
  | xorMemReg w r | xorbRegMem r w | xorbMemReg w r | andRegMem r w | andMemReg w r | andbRegMem r w
  | andbMemReg w r | orRegMem r w | orMemReg w r | orbRegMem r w | orbMemReg w r | pcall r w | movRegMem r w
  | movMemReg w r | movbRegMem r w | movbMemReg w r | movbsRegMem r w | movbsMemReg w r | movbszRegMem r w
  | movbszMemReg w r | scxtRegMem r w | calls r w | jmps r w =>
    apply rowInstr_byteWord r w
    exact fun _ _ _ => rfl
  | movRwIndDisp x y w | movIndDispRw y w x | movbRbIndDisp x y w | movbIndDispRb y w x =>
    apply rowInstr_nibblesWord x y w
    exact fun _ _ _ => rfl
  | cmpi1RwData16 n w | cmpi2RwData16 n w | cmpd1RwData16 n w | cmpd2RwData16 n w | cmpi1RwMem n w | cmpi2RwMem n w
  | cmpd1RwMem n w | cmpd2RwMem n w | movIndMem n w | movMemInd w n | movbIndMem n w | movbMemInd w n =>
    apply rowInstr_lowNibbleWord n w
    exact fun _ _ _ => rfl
  | calla cc a | jmpa cc a =>
    apply rowInstr_condWord cc a
    exact fun _ _ _ => rfl
  | bcmp dst src | bmovn dst src | bmov dst src | bor dst src | band dst src | bxor dst src =>
    apply rowInstr_twoBits dst src
    exact fun _ _ _ => rfl
  | jb b rel | jnb b rel | jbc b rel | jnbs b rel =>
    apply rowInstr_bitRel b rel
    exact fun _ _ _ => rfl
  | addbRegData8 r d | addcbRegData8 r d | subbRegData8 r d | subcbRegData8 r d | cmpbRegData8 r d
  | xorbRegData8 r d | andbRegData8 r d | orbRegData8 r d | movbRegData8 r d | bfldl q mask d | bfldh q mask d
  | callr rel | ret | rets | nop | reti | retp r | pop r | push r | diswdt | einit | idle | pwrdn | srst | srvwdt =>
    rfl
  | atomic g => exact decodeSequence2_D1 0 g 0
  | extr g => exact decodeSequence2_D1 2 g 0
  | extsRw m g => exact decodeSequence2_DC 0 g m
  | extpRw m g => exact decodeSequence2_DC 1 g m
  | extsrRw m g => exact decodeSequence2_DC 2 g m
  | extprRw m g => exact decodeSequence2_DC 3 g m
  | extsSeg sg g => exact decodeSequence4_eq 0 g 0 0 sg 0
  | extsrSeg sg g => exact decodeSequence4_eq 2 g 0 0 sg 0
  | extpPag p g => exact (decodeSequence4_eq 1 g _ 0 _ 0).trans (by rw [page_append]; rfl)
  | extprPag p g => exact (decodeSequence4_eq 3 g _ 0 _ 0).trans (by rw [page_append]; rfl)
  | bclr b => simp [encode, rowInstr, decode2]
  | bset b => simp [encode, rowInstr, decode2]
  | jmpr cc rel => simp [encode, rowInstr, decode2]
  | trap t =>
    apply rowInstr_trapNumber t
    exact fun _ => rfl

end Sys2Proof
end

section
/-! SUPPORT. A row's bytes are the encoding of its instruction: one lemma a format, then every arm of the decoder
(30_encoding.md R111, R117, R118 items 2 to 4). -/

namespace Sys2Proof

open Sys2Proof.Machine

/-- The bytes are the instruction's encoding, but for a byte b3 without a meaning (R111). -/
def IsEncoding (head : List Byte) (i : Instr) : Prop :=
  head = encode i ∨ hasUnusedByte i = true ∧ head.take 3 = (encode i).take 3

/-- An instruction that the bytes decode to has them as its encoding. -/
def OnlyEncodings (head : List Byte) (o : Option Instr) : Prop := ∀ i, o = some i → IsEncoding head i

theorem onlyEncodings_none (head : List Byte) : OnlyEncodings head none := fun _ h => nomatch h

theorem onlyEncodings_some (head : List Byte) (i : Instr) : OnlyEncodings head (some i) ↔ IsEncoding head i := by
  simp [OnlyEncodings]

/-- Fixed bits let an instruction through only where they match. -/
theorem onlyEncodings_fixedBits (head : List Byte) (ok : Bool) (i : Instr) :
    OnlyEncodings head (fixedBits ok i) ↔ (ok = true → IsEncoding head i) := by
  cases ok <;> simp [OnlyEncodings, fixedBits]

/-- The columns x8 and x9, by the form of the operand byte. -/
theorem onlyEncodings_decodeSub {b0 : Byte} {ind indInc : BitVec 4 → BitVec 2 → Instr}
    {data3 : BitVec 4 → BitVec 3 → Instr} (b1 : Byte) (hind : ∀ n i, encode (ind n i) = [b0, n ++ 2#2 ++ i])
    (hindInc : ∀ n i, encode (indInc n i) = [b0, n ++ 3#2 ++ i])
    (hdata3 : ∀ n d, encode (data3 n d) = [b0, n ++ 0#1 ++ d]) :
    OnlyEncodings [b0, b1] (some (decodeSub b1 ind indInc data3)) := by
  rw [onlyEncodings_some]
  left
  rcases subByte_forms b1 with ⟨n, d, rfl⟩ | ⟨n, i, rfl⟩ | ⟨n, i, rfl⟩
  · rw [decodeSub_data3, hdata3]
  · rw [decodeSub_ind, hind]
  · rw [decodeSub_indInc, hindInc]

theorem onlyEncodings_D1 (b1 : Byte) : OnlyEncodings [0xD1, b1] (decodeSequence2 0xD1 b1) := by
  obtain ⟨q, g, m, rfl⟩ : ∃ q g m, b1 = q ++ g ++ m := ⟨_, _, _, sequenceByte_eq b1⟩
  rw [decodeSequence2_D1]
  rcases selector_cases q with rfl | rfl | rfl | rfl <;>
    simp +contextual [onlyEncodings_fixedBits, onlyEncodings_none, IsEncoding, encode]

theorem onlyEncodings_DC (b1 : Byte) : OnlyEncodings [0xDC, b1] (decodeSequence2 0xDC b1) := by
  obtain ⟨q, g, m, rfl⟩ : ∃ q g m, b1 = q ++ g ++ m := ⟨_, _, _, sequenceByte_eq b1⟩
  rw [decodeSequence2_DC, onlyEncodings_some]
  rcases selector_cases q with rfl | rfl | rfl | rfl <;> exact .inl rfl

theorem onlyEncodings_D7 (b1 b2 b3 : Byte) : OnlyEncodings [0xD7, b1, b2, b3] (decodeSequence4 b1 b2 b3) := by
  obtain ⟨q, g, m, rfl⟩ : ∃ q g m, b1 = q ++ g ++ m := ⟨_, _, _, sequenceByte_eq b1⟩
  obtain ⟨z, p, rfl⟩ : ∃ z p, b3 = z ++ p := ⟨_, _, pageByte_eq b3⟩
  rw [decodeSequence4_eq]
  rcases selector_cases q with rfl | rfl | rfl | rfl <;>
    simp +contextual [onlyEncodings_fixedBits, IsEncoding, encode, page_fields]

/-- The 2-byte rows with an operation code: an arm is a format's lemma, or its fields and fixed bits make b1. -/
theorem onlyEncodings_decodeOp2 (b0 b1 : Byte) : OnlyEncodings [b0, b1] (decodeOp2 b0 b1) := by
  unfold decodeOp2
  split
  any_goals exact onlyEncodings_none _
  all_goals
    rename_i hb0
    cases eq_ofNat_of_toNat hb0
  any_goals exact onlyEncodings_decodeSub b1 (fun _ _ => rfl) (fun _ _ => rfl) fun _ _ => rfl
  any_goals exact onlyEncodings_D1 b1
  any_goals exact onlyEncodings_DC b1
  all_goals simp +contextual [onlyEncodings_some, onlyEncodings_fixedBits, IsEncoding, encode, eq_nibbles_iff,
    eq_trapByte_iff]

/-- The 2-byte rows: in the columns xD, xE and xF the high nibble of b0 is a field (R100). -/
theorem onlyEncodings_decode2 (b0 b1 : Byte) : OnlyEncodings [b0, b1] (decode2 b0 b1) := by
  have hcolumn {k : Nat} (h : (lo4 b0).toNat = k) : b0 = hi4 b0 ++ BitVec.ofNat 4 k :=
    (eq_nibbles_iff _ _ _).2 ⟨rfl, eq_ofNat_of_toNat h⟩
  unfold decode2
  split
  case h_1 h | h_2 h | h_3 h => exact (onlyEncodings_some _ _).2 (.inl (by simpa [encode] using hcolumn h))
  case h_4 => exact onlyEncodings_decodeOp2 b0 b1

/-- The 4-byte rows: an arm's fields and fixed bits make b1, b2 and b3, but for a b3 that has no meaning. -/
theorem onlyEncodings_decode4 (b0 b1 b2 b3 : Byte) : OnlyEncodings [b0, b1, b2, b3] (decode4 b0 b1 b2 b3) := by
  unfold decode4
  split
  any_goals exact onlyEncodings_none _
  all_goals
    rename_i hb0
    cases eq_ofNat_of_toNat hb0
  any_goals exact onlyEncodings_D7 b1 b2 b3
  all_goals simp +contextual [onlyEncodings_some, onlyEncodings_fixedBits, IsEncoding, encode, hasUnusedByte,
    eq_nibbles_iff]

theorem onlyEncodings_rowInstr (head : List Byte) : OnlyEncodings head (rowInstr head) := by
  unfold rowInstr
  split
  · exact onlyEncodings_decode2 _ _
  · exact onlyEncodings_decode4 _ _ _ _
  · exact onlyEncodings_none _

/-- The byte without a meaning is not the first. -/
theorem IsEncoding.head?_eq {head : List Byte} {i : Instr} (h : IsEncoding head i) : head.head? = (encode i).head? := by
  rcases h with rfl | ⟨-, htake⟩
  · rfl
  · simpa [List.head?_take] using congrArg List.head? htake

end Sys2Proof

namespace Sys2Proof.Proofs

open Sys2Proof.Machine

/-- Settles O1: an instruction's bytes are as many as its first byte asks for and match its row. -/
theorem decodeEncode : Obligations.DecodeEncode := by
  intro i rest
  obtain ⟨hlength, hhead⟩ := encodedLength i
  exact decode_append (hlength ▸ hhead) (rowInstr_encode i) rest

/-- Settles O2, by the row that the first bytes match. -/
theorem decodeOnlyEncodings : Obligations.DecodeOnlyEncodings := by
  intro bytes i rest h
  obtain ⟨head, hbytes, hlength, hrow⟩ := row_of_decode h
  have hencoding : IsEncoding head i := onlyEncodings_rowInstr head i hrow
  rw [hencoding.head?_eq, (encodedLength i).2] at hlength
  exact ⟨head, hbytes, (Option.some.inj hlength).symm, hencoding⟩

/-- Settles O3, by evaluation. -/
theorem decodeWords : Obligations.DecodeWords := by
  unfold Obligations.DecodeWords
  decide

end Sys2Proof.Proofs
end

section
/-! SUPPORT. The operation codes that no row has, and the protected ones (30_encoding.md R118 items 1 and 5;
45_system.md R310). -/

namespace Sys2Proof

open Sys2Proof.Machine

/-- An unassigned operation code has no row, of two bytes or of four. -/
theorem decode_unassigned {b0 : Byte} (h : b0 ∈ unassignedOpcodes) (b1 b2 b3 : Byte) (rest : List Byte) :
    decode (b0 :: b1 :: b2 :: b3 :: rest) = .undefinedOpcode b0 b1 := by
  simp only [unassignedOpcodes, List.mem_cons, List.not_mem_nil, or_false] at h
  rcases h with rfl | rfl | rfl | rfl | rfl | rfl | rfl | rfl | rfl | rfl | rfl | rfl | rfl | rfl | rfl | rfl | rfl |
    rfl | rfl | rfl <;> rfl

theorem isProtected_iff (b0 : Byte) :
    isProtected b0 = true ↔ b0 = 0x87 ∨ b0 = 0x97 ∨ b0 = 0xA5 ∨ b0 = 0xA7 ∨ b0 = 0xB5 ∨ b0 = 0xB7 := by
  simp [isProtected, or_assoc]

/-- A protected operation code has one row of four bytes: its complement and two copies, each of them fixed. -/
theorem decode_protected {b0 : Byte} (h : isProtected b0 = true) :
    ∃ i ∈ [Instr.diswdt, .einit, .idle, .pwrdn, .srst, .srvwdt], encode i = [b0, ~~~b0, b0, b0] ∧
      ∀ b1 b2 b3 rest, decode (b0 :: b1 :: b2 :: b3 :: rest) =
        .of4 b0 b1 b2 b3 rest (fixedBits (b1 == ~~~b0 && b2 == b0 && b3 == b0) i) := by
  rcases (isProtected_iff b0).1 h with rfl | rfl | rfl | rfl | rfl | rfl
  · exact ⟨.idle, by decide, rfl, fun _ _ _ => decode_cons4 rfl⟩
  · exact ⟨.pwrdn, by decide, rfl, fun _ _ _ => decode_cons4 rfl⟩
  · exact ⟨.diswdt, by decide, rfl, fun _ _ _ => decode_cons4 rfl⟩
  · exact ⟨.srvwdt, by decide, rfl, fun _ _ _ => decode_cons4 rfl⟩
  · exact ⟨.einit, by decide, rfl, fun _ _ _ => decode_cons4 rfl⟩
  · exact ⟨.srst, by decide, rfl, fun _ _ _ => decode_cons4 rfl⟩

end Sys2Proof

namespace Sys2Proof.Proofs

open Sys2Proof.Machine

/-- Settles O4: an unassigned code has no row, and a protected one lets through its own four bytes alone. -/
theorem reservedEncodings : Obligations.ReservedEncodings := by
  refine ⟨fun b0 b1 b2 b3 rest h => decode_unassigned h b1 b2 b3 rest, fun b0 b1 b2 b3 rest h => ?_⟩
  obtain ⟨i, hi, hencode, hdecode⟩ := decode_protected h
  rw [hdecode]
  split
  · next hbytes => exact ⟨i, hi, by simp [hbytes, fixedBits, Decoded.of4], by simp [hencode, hbytes]⟩
  · next hbytes =>
    have hfixed : (b1 == ~~~b0 && b2 == b0 && b3 == b0) = false := by simpa using hbytes
    simp [hfixed, fixedBits, Decoded.of4, h]

end Sys2Proof.Proofs
end

section
/-! SUPPORT. The flags of an addition and a subtraction, at every width (40_arith_logic.md R142, R143). -/

namespace Sys2Proof.Machine

variable {w : Nat}

/-! ## The signed type -/

/-- op2 is `MINNEG_W` (00_scope.md R6). -/
theorem eq_minNeg_iff (hw : 0 < w) (b : BitVec w) : b = minNeg w ↔ b.toNat = 2 ^ (w - 1) := by
  rw [← BitVec.toNat_inj, minNeg, BitVec.toNat_intMin_of_pos hw]

/-- A number outside the signed type. -/
theorem signedOverflow_iff (w : Nat) (x : Int) :
    signedOverflow w x = true ↔ x < -(2 ^ (w - 1)) ∨ x > 2 ^ (w - 1) - 1 := by
  simp [signedOverflow]

/-- A carry is 0 or 1. -/
theorem bitNat_le_one (b : Bool) : bitNat b ≤ 1 := by cases b <;> decide

/-- The opposite carry. -/
theorem bitNat_not (b : Bool) : bitNat (!b) = 1 - bitNat b := by cases b <;> rfl

/-- A sum with carry wraps at most once. -/
theorem toNat_add_carry (a b : BitVec w) (cin : Bool) :
    (a + b + BitVec.ofNat w (bitNat cin)).toNat =
      if a.toNat + b.toNat + bitNat cin < 2 ^ w then a.toNat + b.toNat + bitNat cin
      else a.toNat + b.toNat + bitNat cin - 2 ^ w := by
  have hcin := bitNat_le_one cin
  have hmod : (a + b + BitVec.ofNat w (bitNat cin)).toNat = (a.toNat + b.toNat + bitNat cin) % 2 ^ w := by
    simp [BitVec.toNat_add]
  rw [hmod]
  split
  · exact Nat.mod_eq_of_lt ‹_›
  · rw [Nat.mod_eq_sub_mod (by omega), Nat.mod_eq_of_lt (by omega)]

/-- A sum with carry leaves the signed type iff its operands have one sign and the wrapped sum has the other (R142). -/
theorem signedOverflow_add_iff (hw : 0 < w) (a b : BitVec w) (cin : Bool) :
    signedOverflow w (a.toInt + b.toInt + bitNat cin) = true ↔
      a.msb = b.msb ∧ (a + b + BitVec.ofNat w (bitNat cin)).msb ≠ a.msb := by
  have hcin := bitNat_le_one cin
  have hhalf : (2 : Int) ^ (w - 1) = (2 ^ (w - 1) : Nat) := by push_cast; rfl
  have ha := a.isLt
  have hb := b.isLt
  rw [signedOverflow_iff, BitVec.toInt_eq_toNat_cond, BitVec.toInt_eq_toNat_cond, hhalf]
  simp only [BitVec.msb_eq_decide, toNat_add_carry, decide_eq_decide, ne_eq, ← Nat.two_pow_pred_mul_two hw] at ha hb ⊢
  generalize 2 ^ (w - 1) = half at ha hb ⊢
  split_ifs <;> omega

/-- The complement as a signed number. -/
theorem toInt_complement (hw : 0 < w) (b : BitVec w) : (~~~b).toInt = -1 - b.toInt := by
  have hb := b.isLt
  rw [BitVec.toInt_eq_toNat_cond, BitVec.toInt_eq_toNat_cond, BitVec.toNat_not]
  rw [← Nat.two_pow_pred_mul_two hw] at hb ⊢
  generalize 2 ^ (w - 1) = half at hb ⊢
  split_ifs <;> omega

/-- A difference with borrow is the sum with the complement and the opposite carry. -/
theorem sub_borrow_eq_add (a b : BitVec w) (bin : Bool) :
    a - b - BitVec.ofNat w (bitNat bin) = a + ~~~b + BitVec.ofNat w (bitNat !bin) := by
  rw [BitVec.sub_eq_add_neg a b, BitVec.neg_eq_not_add]
  cases bin <;> simp [bitNat, ← BitVec.add_assoc]

/-- A difference with borrow leaves the signed type iff its operands' signs differ and the wrapped difference has not
op1's (R143). -/
theorem signedOverflow_sub_iff (hw : 0 < w) (a b : BitVec w) (bin : Bool) :
    signedOverflow w (a.toInt - b.toInt - bitNat bin) = true ↔
      a.msb ≠ b.msb ∧ (a - b - BitVec.ofNat w (bitNat bin)).msb ≠ a.msb := by
  have hnot : a.toInt - b.toInt - bitNat bin = a.toInt + (~~~b).toInt + bitNat (!bin) := by
    have hbin := bitNat_le_one bin
    rw [toInt_complement hw, bitNat_not]
    omega
  have hsign : (a.msb = (~~~b).msb) ↔ a.msb ≠ b.msb := by
    simp [BitVec.msb_not, hw, Bool.eq_not]
  rw [hnot, signedOverflow_add_iff hw, hsign, sub_borrow_eq_add]

/-! ## `AddFlags` and `SubFlags` -/

/-- The sum of `AddFlags` wraps. -/
theorem addFlags_value (a b : BitVec w) (cin : Bool) :
    (addFlags a b cin).1 = a + b + BitVec.ofNat w (bitNat cin) := by
  simp [addFlags, BitVec.ofNat_add]

/-- The difference of `SubFlags` wraps. -/
theorem subFlags_value (a b : BitVec w) (bin : Bool) :
    (subFlags a b bin).1 = a - b - BitVec.ofNat w (bitNat bin) := by
  simp [subFlags, sub_eq_add_neg, BitVec.ofInt_add, BitVec.ofInt_neg]

/-- C of `SubFlags` is the borrow. -/
theorem subFlags_carry (a b : BitVec w) (bin : Bool) :
    (subFlags a b bin).2.c = true ↔ a.toNat < b.toNat + bitNat bin := by
  rw [subFlags, decide_eq_true_eq]
  omega

end Sys2Proof.Machine

namespace Sys2Proof.Proofs

open Sys2Proof.Machine

/-- Settles O31: the sum wraps, and it overflows as its signs say. -/
theorem addFlagsRule : Obligations.AddFlagsRule := by
  intro w a b cin hwidth
  have hw : 0 < w := by omega
  intro x sum
  have hv : x.2.v = signedOverflow w sum := rfl
  refine ⟨addFlags_value a b cin, decide_eq_true_iff.trans (eq_minNeg_iff hw b), decide_eq_true_iff, rfl,
    decide_eq_true_iff, ?_, ?_⟩
  · rw [hv, signedOverflow_iff]
  · rw [hv, signedOverflow_add_iff hw, ← addFlags_value]

/-- Settles O32: a difference is a sum with the complement, so it overflows as its signs say; C is the borrow. -/
theorem subFlagsRule : Obligations.SubFlagsRule := by
  intro w a b bin hwidth
  have hw : 0 < w := by omega
  intro x diff
  have hv : x.2.v = signedOverflow w diff := rfl
  refine ⟨subFlags_value a b bin, decide_eq_true_iff.trans (eq_minNeg_iff hw b), decide_eq_true_iff, rfl,
    subFlags_carry a b bin, ?_, ?_, subFlags_carry a b false⟩
  · rw [hv, signedOverflow_iff]
  · rw [hv, signedOverflow_sub_iff hw, ← subFlags_value]

/-- Settles O33: each group is defined by its equation. -/
theorem aluOperations : Obligations.AluOperations :=
  fun _ _ _ _ => ⟨rfl, rfl, rfl, rfl, rfl, rfl, rfl, rfl, rfl, rfl⟩

end Sys2Proof.Proofs
end

section
/-! SUPPORT. What the arithmetic, logic and compare forms do when the register bank lies in RAM (40_arith_logic.md R140,
R141, R153 to R160; 20_memory.md R68, R77). -/

namespace Sys2Proof.Machine

variable {s u : State}

/-! ## Operands before flags -/

/-- Reads change nothing of what stops a source operand. -/
theorem ReadsOnly.sourceStop_eq (h : ReadsOnly s u) {k : Nat} (w : Width) (src : Src k) :
    sourceStop w src u = sourceStop w src s := by
  obtain ⟨mdc, d, rfl, -⟩ := h
  exact sourceStop_congr src w s mdc d

/-- Two WORD operands read, op2 with its post-increment, leave the flags and what a write depends on (R77). -/
theorem operandsW_keep (pa : PhysAddr) (src : Src 16) (s : State) :
    (sourceW src (loadedW pa s).2).2.flags = s.flags ∧ (sourceW src (loadedW pa s).2).2.cfg = s.cfg ∧
      (sourceW src (loadedW pa s).2).2.initDone = s.initDone := by
  rw [sourceW_same, loadedW_same]
  exact ⟨rfl, rfl, rfl⟩

/-- Two BYTE operands likewise. -/
theorem operandsB_keep (pa : PhysAddr) (src : Src 8) (s : State) :
    (sourceB src (loadedB pa s).2).2.flags = s.flags ∧ (sourceB src (loadedB pa s).2).2.cfg = s.cfg ∧
      (sourceB src (loadedB pa s).2).2.initDone = s.initDone := by
  rw [sourceB_same, loadedB_same]
  exact ⟨rfl, rfl, rfl⟩

/-- A WORD destination that takes the value. -/
theorem writeDstW_put {pa : PhysAddr} {v : Word} (h : writeStop .word pa v s = none) :
    writeDstW pa v s = .ok (putW pa v s) :=
  (writeDstW_ok ..).2 ⟨h, rfl⟩

/-- A BYTE destination that takes the value. -/
theorem writeDstB_put {pa : PhysAddr} {v : Byte} (h : writeStop .byte pa (wordOfByte pa.toNat v) s = none) :
    writeDstB pa v s = .ok (putB pa v s) :=
  (writeDstB_ok ..).2 ⟨h, rfl⟩

/-! ## The two-operand groups -/

/-- A WORD group whose operands can be read: the flags, then op1 unless it is CMP, then IP (R140). -/
theorem aluW_bank (hbank : BankInRam s) {op : AluOp} {dst : Loc} {src : Src 16} {len : Nat}
    (hdst : accessStop .word (effAddr dst .word s) s.cfg = none) (hsrc : sourceStop .word src s = none) :
    aluW op dst src len s =
      (let pa := effAddr dst .word s
       let b := sourceW src (loadedW pa s).2
       let x := op.compute (loadedW pa s).1 b.1 s.flags
       (if op = .cmp then .ok (b.2.setFlags x.2) else writeDstW pa x.1 (b.2.setFlags x.2)) >>= fun t =>
         .ok (t.advance len)) := by
  have hread := (memReadW_ok (effAddr dst .word s) s _).2 ⟨hdst, rfl⟩
  have hreads := loadedW_readsOnly (effAddr dst .word s) s
  have hsource := readSrcW_bank (hreads.bankInRam hbank) src ((hreads.sourceStop_eq .word src).trans hsrc)
  obtain ⟨hflags, -⟩ := operandsW_keep (effAddr dst .word s) src s
  simp only [aluW, addr_bank hbank, hread, hsource, hflags, bind, Except.bind]

/-- A BYTE group likewise (R141). -/
theorem aluB_bank (hbank : BankInRam s) {op : AluOp} {dst : Loc} {src : Src 8} {len : Nat}
    (hdst : accessStop .byte (effAddr dst .byte s) s.cfg = none) (hsrc : sourceStop .byte src s = none) :
    aluB op dst src len s =
      (let pa := effAddr dst .byte s
       let b := sourceB src (loadedB pa s).2
       let x := op.compute (loadedB pa s).1 b.1 s.flags
       (if op = .cmp then .ok (b.2.setFlags x.2) else writeDstB pa x.1 (b.2.setFlags x.2)) >>= fun t =>
         .ok (t.advance len)) := by
  have hread := (memReadB_ok (effAddr dst .byte s) s _).2 ⟨hdst, rfl⟩
  have hreads := loadedB_readsOnly (effAddr dst .byte s) s
  have hsource := readSrcB_bank (hreads.bankInRam hbank) src ((hreads.sourceStop_eq .byte src).trans hsrc)
  obtain ⟨hflags, -⟩ := operandsB_keep (effAddr dst .byte s) src s
  simp only [aluB, addr_bank hbank, hread, hsource, hflags, bind, Except.bind]

/-- A BYTE form of the arithmetic, logic and compare groups runs its group. -/
theorem exec_aluByteForm {i : Instr} {op : AluOp} {dst : Loc} {src : Src 8} (h : aluByteForm i = some (op, dst, src))
    (s : State) : exec i s = finish s (aluB op dst src i.length s) := by
  cases i <;> cases h <;> rfl

/-! ## The register-only instructions -/

/-- CMPI1, CMPI2, CMPD1, CMPD2 with an op2 that can be read (R153 to R156). -/
theorem compareStep_bank (hbank : BankInRam s) {src : Src 16} (hsrc : sourceStop .word src s = none) (δ : Word)
    (n : BitVec 4) (len : Nat) :
    compareStep δ n src len s =
      .ok ((((sourceW src s).2.setFlags (subFlags (gprWord n s) (sourceW src s).1 false).2).setGpr n
        (gprWord n s + δ)).advance len) := by
  have hwrite := writeDstW_gpr (s := (sourceW src s).2.setFlags (subFlags (gprWord n s) (sourceW src s).1 false).2)
    (sourceW_bank hbank src) n (gprWord n s + δ)
  simp only [compareStep, readGpr_bank hbank, readSrcW_bank hbank src hsrc, hwrite, bind, Except.bind]

/-- CPL and NEG (R157, R159). -/
theorem unaryW_bank (hbank : BankInRam s) (op : UnaryOp) (n : BitVec 4) :
    unaryW op n s =
      .ok (((s.setFlags (op.compute (gprWord n s)).2).setGpr n (op.compute (gprWord n s)).1).advance 2) := by
  have hwrite (x : Word × Flags) :
      writeDstW (gprAddr s n) x.1 (s.setFlags x.2) = .ok ((s.setFlags x.2).setGpr n x.1) :=
    writeDstW_gpr (s := s.setFlags x.2) hbank n x.1
  simp only [unaryW, readGpr_bank hbank, hwrite, bind, Except.bind]

/-- CPLB and NEGB (R158, R160). -/
theorem unaryB_bank (hbank : BankInRam s) (op : UnaryOp) (n : BitVec 4) :
    unaryB op n s =
      .ok (((s.setFlags (op.compute (gprByte n s)).2).storeByte (gprByteAddr s n).toNat
        (op.compute (gprByte n s)).1).advance 2) := by
  have hwrite (x : Byte × Flags) : writeDstB (gprByteAddr s n) x.1 (s.setFlags x.2) =
      .ok ((s.setFlags x.2).storeByte (gprByteAddr s n).toNat x.1) :=
    writeDstB_gpr (s := s.setFlags x.2) hbank n x.1
  simp only [unaryB, readGprByte_bank hbank, hwrite, bind, Except.bind]

/-- The difference to 0 is the negative. -/
theorem neg_compute {w : Nat} (a : BitVec w) : UnaryOp.neg.compute a = (-a, (subFlags 0 a false).2) := by
  have hzero : (subFlags 0 a false).1 = -a := by
    rw [subFlags_value]
    simp [bitNat]
  rw [← hzero]
  rfl

end Sys2Proof.Machine

namespace Sys2Proof.Proofs

open Sys2Proof.Machine

/-- Settles O28: the operands' reads leave the flags and what stops the write of op1, so the group writes where the
hypothesis lets it. -/
theorem aluWordResult : Obligations.AluWordResult := by
  intro i op dst src s hform hbank hdst hsrc pa a b x u hwrite
  obtain ⟨-, hcfg, hdone⟩ := operandsW_keep pa src s
  rw [exec_aluWordForm hform, aluW_bank hbank hdst hsrc]
  by_cases hop : op = .cmp
  · simp only [if_pos hop]
    rfl
  · have hput : writeDstW pa x.1 u = .ok (putW pa x.1 u) :=
      writeDstW_put ((writeStop_congr _ _ _ hcfg hdone).trans (hwrite hop))
    simp only [if_neg hop]
    rw [hput]
    rfl

/-- Settles O29: a BYTE group reads and writes in the order of the WORD groups. -/
theorem aluByteResult : Obligations.AluByteResult := by
  intro i op dst src s hform hbank hdst hsrc pa a b x u hwrite
  obtain ⟨-, hcfg, hdone⟩ := operandsB_keep pa src s
  rw [exec_aluByteForm hform, aluB_bank hbank hdst hsrc]
  by_cases hop : op = .cmp
  · simp only [if_pos hop]
    rfl
  · have hput : writeDstB pa x.1 u = .ok (putB pa x.1 u) :=
      writeDstB_put ((writeStop_congr _ _ _ hcfg hdone).trans (hwrite hop))
    simp only [if_neg hop]
    rw [hput]
    rfl

/-- Settles O30: op1 is a register of the bank, which nothing stops from being written. -/
theorem registerOnlyResult : Obligations.RegisterOnlyResult := by
  refine ⟨fun i δ n src s hform hbank hsrc => ?compare, fun s n hbank => ⟨?neg, ?cpl, ?negb, ?cplb⟩⟩
  case compare =>
    rw [exec_compareForm hform, compareStep_bank hbank hsrc, finish_ok]
  case neg =>
    show finish s (unaryW .neg n s) = _
    rw [unaryW_bank hbank, finish_ok, neg_compute]
  case cpl =>
    show finish s (unaryW .cpl n s) = _
    rw [unaryW_bank hbank, finish_ok]
    rfl
  case negb =>
    show finish s (unaryB .neg n s) = _
    rw [unaryB_bank hbank, finish_ok, neg_compute]
  case cplb =>
    show finish s (unaryB .cpl n s) = _
    rw [unaryB_bank hbank, finish_ok]
    rfl

end Sys2Proof.Proofs
end

section
/-! SUPPORT. What the arithmetic, logic and compare forms leave unchanged: they read, move a pointer, write the flags
and op1 (40_arith_logic.md R140, R141, R169). -/

namespace Sys2Proof.Machine

variable {w : Width} {target : Option PhysAddr} {s u : State}

/-- A post-increment changes its own pointer only. -/
theorem OnlyWrites.incremented {l : Loc} (h : OnlyWrites w target l.pointer s u)
    (haddr : ∀ n, gprAddr u n = gprAddr s n) (v : Width) : OnlyWrites w target l.pointer s (incremented l v u) := by
  cases l with
  | indInc n =>
    refine { h with mem := fun a ha hp => ?_ }
    have hpointer : ¬ footprint s.cfg .word (gprAddr s n) a := hp n (List.mem_singleton_self n)
    rw [← haddr n] at hpointer
    exact (Memory.get_setWord_other _ _ (fun hlow => hpointer (.inl hlow)) fun hhigh => hpointer (.inr hhigh)).trans
      (h.mem a ha hp)
  | _ => exact h

/-- A WORD source operand, read after reads: its pointer alone has moved. -/
theorem ReadsOnly.readSrcW_pointer (h : ReadsOnly s u) (w : Width) (target : Option PhysAddr) (hbank : BankInRam s)
    (src : Src 16) :
    Yields True (fun x => OnlyWrites w target src.pointer s x.2) (readSrcW src u) := by
  cases src with
  | imm v => exact h.onlyWrites
  | loc l =>
    simp only [readSrcW, addr_bank (h.bankInRam hbank)]
    refine (memReadW_yields fun _ => trivial).bind ?_
    rintro ⟨v, t⟩ (ht : ReadsOnly u t)
    have hreads := h.trans ht
    simp only [after_bank (hreads.bankInRam hbank)]
    exact hreads.onlyWrites.incremented hreads.gprAddr_eq .word

/-- A BYTE source operand likewise; no event comes of it. -/
theorem ReadsOnly.readSrcB_pointer (h : ReadsOnly s u) (w : Width) (target : Option PhysAddr) (hbank : BankInRam s)
    (src : Src 8) :
    Yields False (fun x => OnlyWrites w target src.pointer s x.2) (readSrcB src u) := by
  cases src with
  | imm v => exact h.onlyWrites
  | loc l =>
    simp only [readSrcB, addr_bank (h.bankInRam hbank)]
    refine memReadB_yields.bind ?_
    rintro ⟨v, t⟩ (ht : ReadsOnly u t)
    have hreads := h.trans ht
    simp only [after_bank (hreads.bankInRam hbank)]
    exact hreads.onlyWrites.incremented hreads.gprAddr_eq .byte

/-- A WORD group (R140): either operand can be misaligned (R169). -/
theorem aluW_yields (hbank : BankInRam s) (op : AluOp) (dst : Loc) (src : Src 16) (len : Nat) :
    Yields True (OnlyWrites .word (if op = .cmp then none else some (effAddr dst .word s)) src.pointer s)
      (aluW op dst src len s) := by
  simp only [aluW, addr_bank hbank]
  refine (memReadW_yields fun _ => trivial).bind ?_
  rintro ⟨a, u⟩ (hu : ReadsOnly s u)
  refine (hu.readSrcW_pointer .word (if op = .cmp then none else some (effAddr dst .word s)) hbank src).bind ?_
  rintro ⟨b, v⟩ hv
  by_cases hop : op = .cmp
  · simp only [if_pos hop] at hv ⊢
    exact (hv.setFlags _).advance len
  · simp only [if_neg hop] at hv ⊢
    exact (writeDstW_yields (fun _ => trivial) (hv.setFlags _) _).bind fun t ht => ht.advance len

/-- A BYTE group (R141) raises nothing. -/
theorem aluB_yields (hbank : BankInRam s) (op : AluOp) (dst : Loc) (src : Src 8) (len : Nat) :
    Yields False (OnlyWrites .byte (if op = .cmp then none else some (effAddr dst .byte s)) src.pointer s)
      (aluB op dst src len s) := by
  simp only [aluB, addr_bank hbank]
  refine memReadB_yields.bind ?_
  rintro ⟨a, u⟩ (hu : ReadsOnly s u)
  refine (hu.readSrcB_pointer .byte (if op = .cmp then none else some (effAddr dst .byte s)) hbank src).bind ?_
  rintro ⟨b, v⟩ hv
  by_cases hop : op = .cmp
  · simp only [if_pos hop] at hv ⊢
    exact (hv.setFlags _).advance len
  · simp only [if_neg hop] at hv ⊢
    exact (writeDstB_yields (hv.setFlags _) _).bind fun t ht => ht.advance len

end Sys2Proof.Machine

namespace Sys2Proof.Proofs

open Sys2Proof.Machine

/-- Settles O35: reads with their pointer, then the flags, then op1; only a WORD form can raise an event. -/
theorem aluFrame : Obligations.AluFrame := by
  refine fun i s t hbank h => ⟨fun op dst src hform => ?word, fun op dst src hform => ?byte⟩
  case word =>
    rw [exec_aluWordForm hform] at h
    exact ((aluW_yields hbank op dst src _).next_or_trapped h).imp_left And.right
  case byte =>
    rw [exec_aluByteForm hform] at h
    exact .inr ((aluB_yields hbank op dst src _).next h)

end Sys2Proof.Proofs
end

section
/-! SUPPORT. What the shifts, the rotates and PRIOR do when the register bank lies in RAM (41_shift_rotate.md R200,
R202). -/

namespace Sys2Proof.Machine

variable {s : State} {n : BitVec 4}

/-- A general register as a source operand: its read leaves the state. -/
theorem sourceW_rw (hbank : BankInRam s) (m : BitVec 4) : sourceW (.loc (.rw m)) s = (gprWord m s, s) := by
  simp [sourceW, effAddr, incremented, loadedW, classify_gprAddr hbank, gprWord]

/-- op2 of a shift, data or a register, is read and leaves the state. -/
theorem readSrcW_shiftForm (hbank : BankInRam s) {i : Instr} {op : ShiftOp} {src : Src 16}
    (hform : shiftForm i = some (op, n, src)) : readSrcW src s = .ok ((sourceW src s).1, s) := by
  rcases shiftForm_source hform with ⟨v, rfl⟩ | ⟨m, rfl⟩
  · rfl
  · have hstop : sourceStop .word (.loc (.rw m) : Src 16) s = none := accessStop_gpr hbank m
    rw [readSrcW_bank hbank _ hstop, sourceW_rw hbank]

/-- A general register written after the flags. -/
theorem writeDstW_gpr_setFlags (hbank : BankInRam s) (n : BitVec 4) (f : Flags) (v : Word) :
    writeDstW (gprAddr s n) v (s.setFlags f) = .ok ((s.setFlags f).setGpr n v) :=
  writeDstW_gpr (s := s.setFlags f) hbank n v

/-- PRIOR: the flags, then the count to op1 (R202). -/
theorem priorOp_bank (hbank : BankInRam s) (n m : BitVec 4) :
    priorOp n m s = .ok (((s.setFlags ⟨false, decide (gprWord m s = 0), false, false, false⟩).setGpr n
      (priorValue (gprWord m s))).advance 2) := by
  have hwrite (f : Flags) :
      writeDstW (gprAddr (s.setFlags f) n) (priorValue (gprWord m s)) (s.setFlags f) =
        .ok ((s.setFlags f).setGpr n (priorValue (gprWord m s))) :=
    writeDstW_gpr_setFlags hbank n f _
  simp only [priorOp, readGpr_bank hbank, hwrite, bind, Except.bind]

end Sys2Proof.Machine

namespace Sys2Proof.Proofs

open Sys2Proof.Machine

/-- Settles O36: both operands are read before the flags are set, and nothing stops the write of a register of the
bank. -/
theorem shiftResult : Obligations.ShiftResult := by
  refine ⟨fun i op n src s hform hbank => ?shift, fun n m s hbank => ?prior⟩
  case shift =>
    rw [exec_shiftForm hform, shiftOp, readGpr_bank hbank]
    simp only [readSrcW_shiftForm hbank hform, writeDstW_gpr_setFlags hbank, finish_ok, bind, Except.bind]
  case prior =>
    show finish s (priorOp n m s) = _
    rw [priorOp_bank hbank, finish_ok]

end Sys2Proof.Proofs
end

section
/-! SUPPORT. The loops of the shifts, the rotates and PRIOR in closed form (41_shift_rotate.md R201 to R206). -/

namespace Sys2Proof.Machine

/-! ## One position -/

/-- The bits of a WORD rotated left, around the end. -/
theorem getLsbD_rotateLeft_cyclic (a : Word) {c i : Nat} (hc : c < 16) (hi : i < 16) :
    (a.rotateLeft c).getLsbD i = a.getLsbD ((i + (16 - c)) % 16) := by
  rw [BitVec.getLsbD_rotateLeft_of_le hc]
  by_cases hwrap : i < c
  · simp only [hwrap, decide_true, cond_true, show (i + (16 - c)) % 16 = 16 - c + i by omega]
  · simp only [hwrap, hi, decide_true, decide_false, cond_false, Bool.true_and,
      show (i + (16 - c)) % 16 = i - c by omega]

/-- The bits of a WORD rotated right, around the end. -/
theorem getLsbD_rotateRight_cyclic (a : Word) {c i : Nat} (hc : c < 16) (hi : i < 16) :
    (a.rotateRight c).getLsbD i = a.getLsbD ((i + c) % 16) := by
  rw [BitVec.getLsbD_rotateRight_of_lt hc]
  by_cases hwrap : i < 16 - c
  · simp only [hwrap, decide_true, cond_true, show (i + c) % 16 = c + i by omega]
  · simp only [hwrap, hi, decide_true, decide_false, cond_false, Bool.true_and,
      show (i + c) % 16 = i - (16 - c) by omega]

/-- The closed value of a shift by `c` positions. -/
def ShiftOp.shifted (op : ShiftOp) (a : Word) (c : Nat) : Word :=
  match op with
  | .rol => a.rotateLeft c
  | .ror => a.rotateRight c
  | .shl => a <<< c
  | .shr => a >>> c
  | .ashr => a.sshiftRight c

/-- The shifts that keep in V the bits that leave C. -/
def ShiftOp.isRight : ShiftOp → Bool
  | .ror | .shr | .ashr => true
  | .rol | .shl => false

/-- The bit of op1 that the position after `c` others moves out. -/
def ShiftOp.bitOut (op : ShiftOp) (a : Word) (c : Nat) : Bool :=
  if op.isRight then a.getLsbD c else a.getLsbD (15 - c)

/-- C after `c` positions: the last bit out. -/
def ShiftOp.lastOut (op : ShiftOp) (a : Word) (c : Nat) : Bool :=
  match c with
  | 0 => false
  | c + 1 => op.bitOut a c

/-- V after `c` positions: a right shift has moved a 1 out before the last bit. -/
def ShiftOp.earlierOut (op : ShiftOp) (a : Word) (c : Nat) : Bool :=
  op.isRight && decide (a.toNat % 2 ^ (c - 1) ≠ 0)

/-- A bit put in below the low fifteen bits. -/
theorem getLsbD_lowBits_append (x : Word) (b : BitVec 1) {i : Nat} (hi : i < 16) :
    BitVec.getLsbD (w := 16) (x.extractLsb' 0 15 ++ b) i = if i = 0 then b.getLsbD 0 else x.getLsbD (i - 1) := by
  show BitVec.getLsbD (w := 15 + 1) _ _ = _
  rw [BitVec.getLsbD_append, BitVec.getLsbD_extractLsb']
  rcases i with _ | i
  · simp
  · simp [Nat.lt_of_succ_lt_succ hi]

/-- A bit put in above the high fifteen bits. -/
theorem getLsbD_append_highBits (x : Word) (b : BitVec 1) {i : Nat} (hi : i < 16) :
    BitVec.getLsbD (w := 16) (b ++ x.extractLsb' 1 15) i = if i = 15 then b.getLsbD 0 else x.getLsbD (i + 1) := by
  show BitVec.getLsbD (w := 1 + 15) _ _ = _
  rw [BitVec.getLsbD_append, BitVec.getLsbD_extractLsb']
  by_cases htop : i = 15
  · simp [htop]
  · simp [htop, show i < 15 by omega, Nat.add_comm]

/-- A position moves the value by one. -/
theorem ShiftOp.once_value (op : ShiftOp) (x : Shifting) : (op.once x).value = op.shifted x.value 1 := by
  apply BitVec.eq_of_getLsbD_eq
  intro i hi
  cases op with
  | rol =>
    rw [once, shifted, getLsbD_lowBits_append _ _ hi, getLsbD_rotateLeft_cyclic _ (by decide) hi]
    by_cases hlow : i = 0
    · simp [hlow]
    · rw [if_neg hlow, show (i + (16 - 1)) % 16 = i - 1 by omega]
  | ror =>
    rw [once, shifted, getLsbD_append_highBits _ _ hi, getLsbD_rotateRight_cyclic _ (by decide) hi]
    by_cases htop : i = 15
    · simp [htop]
    · rw [if_neg htop, Nat.mod_eq_of_lt (by omega)]
  | shl =>
    rw [once, shifted, getLsbD_lowBits_append _ _ hi, BitVec.getLsbD_shiftLeft]
    by_cases hlow : i = 0
    · simp [hlow]
    · simp [hlow, hi]
  | shr =>
    rw [once, shifted, getLsbD_append_highBits _ _ hi, BitVec.getLsbD_ushiftRight, Nat.add_comm]
    by_cases htop : i = 15
    · simp [htop]
    · simp [htop]
  | ashr =>
    rw [once, shifted, getLsbD_append_highBits _ _ hi, BitVec.getLsbD_sshiftRight, Nat.add_comm]
    by_cases htop : i = 15
    · simp [htop, BitVec.msb_eq_getLsbD_last]
    · simp [htop, show 1 + i < 16 by omega, hi]

/-- A position moves the value by one, a bit of it to C, and on a right shift the old C into V. -/
theorem ShiftOp.once_eq (op : ShiftOp) (x : Shifting) :
    op.once x = ⟨op.shifted x.value 1, op.isRight && (x.c || x.v), op.bitOut x.value 0⟩ := by
  rw [← once_value]
  cases op with
  | ror => simp [once, isRight, bitOut, Bool.or_comm]
  | _ => simp [once, isRight, bitOut]

/-- A shift by one more position. -/
theorem ShiftOp.shifted_succ (op : ShiftOp) (a : Word) {c : Nat} (hc : c + 1 < 16) :
    op.shifted (op.shifted a c) 1 = op.shifted a (c + 1) := by
  cases op with
  | rol =>
    apply BitVec.eq_of_getLsbD_eq
    intro i hi
    rw [shifted, shifted, shifted, getLsbD_rotateLeft_cyclic _ (by decide) hi,
      getLsbD_rotateLeft_cyclic a (by omega) (Nat.mod_lt _ (by decide)), getLsbD_rotateLeft_cyclic a hc hi]
    congr 1
    omega
  | ror =>
    apply BitVec.eq_of_getLsbD_eq
    intro i hi
    rw [shifted, shifted, shifted, getLsbD_rotateRight_cyclic _ (by decide) hi,
      getLsbD_rotateRight_cyclic a (by omega) (Nat.mod_lt _ (by decide)), getLsbD_rotateRight_cyclic a hc hi]
    congr 1
    omega
  | shl => exact (BitVec.shiftLeft_add a c 1).symm
  | shr => exact (BitVec.shiftRight_add a c 1).symm
  | ashr => exact BitVec.sshiftRight_add.symm

/-- The bit next out is the one that so many positions bring to the end. -/
theorem ShiftOp.bitOut_shifted (op : ShiftOp) (a : Word) {c : Nat} (hc : c < 16) :
    op.bitOut (op.shifted a c) 0 = op.bitOut a c := by
  cases op with
  | rol =>
    show (a.rotateLeft c).getLsbD 15 = a.getLsbD (15 - c)
    rw [getLsbD_rotateLeft_cyclic a hc (by decide)]
    congr 1
    omega
  | ror =>
    show (a.rotateRight c).getLsbD 0 = a.getLsbD c
    rw [getLsbD_rotateRight_cyclic a hc (by decide), Nat.zero_add, Nat.mod_eq_of_lt hc]
  | shl =>
    show (a <<< c).getLsbD 15 = a.getLsbD (15 - c)
    simp only [BitVec.getLsbD_shiftLeft, Nat.not_lt.2 (Nat.le_of_lt_succ hc), decide_false, decide_true, Bool.not_false,
      Bool.true_and, show 15 < 16 by decide]
  | shr => simp [bitOut, shifted, isRight]
  | ashr =>
    show (a.sshiftRight c).getLsbD 0 = a.getLsbD c
    simp only [BitVec.getLsbD_sshiftRight, Nat.add_zero, if_pos hc]
    rfl

/-- Of the low `c + 1` bits one is 1 iff it is the highest or one of the others. -/
theorem mod_two_pow_succ_ne_zero_iff (x c : Nat) : x % 2 ^ (c + 1) ≠ 0 ↔ x.testBit c = true ∨ x % 2 ^ c ≠ 0 := by
  rw [Nat.mod_pow_succ, Nat.testBit_eq_decide_div_mod_eq, decide_eq_true_eq]
  rcases Nat.mod_two_eq_zero_or_one (x / 2 ^ c) with h | h
  · simp [h]
  · simp [h]

/-- A further position of a right shift adds the old C to what is lost. -/
theorem ShiftOp.earlierOut_succ (op : ShiftOp) (a : Word) (c : Nat) :
    op.earlierOut a (c + 1) = (op.isRight && (op.lastOut a c || op.earlierOut a c)) := by
  cases hright : op.isRight with
  | false => simp [earlierOut, hright]
  | true =>
    cases c with
    | zero => simp [earlierOut, lastOut, Nat.mod_one]
    | succ c =>
      have hlost := mod_two_pow_succ_ne_zero_iff a.toNat c
      simp only [earlierOut, lastOut, bitOut, hright, Bool.true_and, if_true, Nat.add_sub_cancel, hlost]
      simp [BitVec.getLsbD]

/-! ## All positions -/

/-- A loop of one position more makes it after the others. -/
theorem ShiftOp.loop_succ (op : ShiftOp) (c : Nat) (x : Shifting) : op.loop (c + 1) x = op.once (op.loop c x) := by
  induction c generalizing x with
  | zero => rfl
  | succ c ih => exact ih (op.once x)

/-- A shift by no position. -/
theorem ShiftOp.shifted_zero (op : ShiftOp) (a : Word) : op.shifted a 0 = a := by
  cases op with
  | rol => simp [shifted, BitVec.rotateLeft_def, BitVec.ushiftRight_eq_zero]
  | ror => simp [shifted, BitVec.rotateRight_def]
  | _ => simp [shifted]

/-- The loop of a shift by 0 to 15 positions. -/
theorem ShiftOp.loop_eq (op : ShiftOp) (a : Word) {c : Nat} (hc : c < 16) :
    op.loop c ⟨a, false, false⟩ = ⟨op.shifted a c, op.earlierOut a c, op.lastOut a c⟩ := by
  induction c with
  | zero => simp [loop, shifted_zero, earlierOut, lastOut, Nat.mod_one]
  | succ c ih =>
    rw [loop_succ, ih (by omega), once_eq, shifted_succ op a hc, ← earlierOut_succ, bitOut_shifted op a (by omega)]
    rfl

/-- The result and the flags of a shift by 0 to 15 positions. -/
theorem ShiftOp.compute_eq (op : ShiftOp) (a : Word) {c : Nat} (hc : c < 16) :
    op.compute a c = (op.shifted a c, ⟨false, decide (op.shifted a c = 0), op.earlierOut a c, op.lastOut a c,
      (op.shifted a c).msb⟩) := by
  rw [compute, loop_eq op a hc]

/-- The last bit out, by its place in op1. -/
theorem ShiftOp.lastOut_eq (op : ShiftOp) (a : Word) (c : Nat) :
    op.lastOut a c = (decide (c ≠ 0) && if op.isRight then a.getLsbD (c - 1) else a.getLsbD (16 - c)) := by
  cases c with
  | zero => rfl
  | succ c => simp [lastOut, bitOut]

/-! ## PRIOR -/

/-- The loop of PRIOR brings the leading 1 to bit 15 when its fuel allows (R202). -/
theorem priorCount_spec {fuel : Nat} {b : Word} (h : 2 ^ 15 ≤ b.toNat * 2 ^ fuel) :
    priorCount fuel b ≤ fuel ∧ 2 ^ 15 ≤ b.toNat * 2 ^ priorCount fuel b ∧
      b.toNat * 2 ^ priorCount fuel b < 2 ^ 16 := by
  induction fuel generalizing b with
  | zero => exact ⟨Nat.le_refl 0, h, by simpa [priorCount] using b.isLt⟩
  | succ fuel ih =>
    have hb := b.isLt
    have htop : b.getLsbD 15 = decide (2 ^ 15 ≤ b.toNat) :=
      (BitVec.msb_eq_getLsbD_last b).symm.trans (BitVec.msb_eq_decide b)
    rw [priorCount, htop]
    by_cases hlead : 2 ^ 15 ≤ b.toNat
    · simp only [hlead, decide_true, if_true]
      omega
    · have hdouble : (b <<< 1).toNat = b.toNat * 2 := by
        rw [BitVec.toNat_shiftLeft, Nat.shiftLeft_eq]
        omega
      have hshift (k : Nat) : (b <<< 1).toNat * 2 ^ k = b.toNat * 2 ^ (1 + k) := by
        rw [hdouble, Nat.pow_add, Nat.mul_assoc, Nat.pow_one]
      obtain ⟨hle, hlow, hhigh⟩ := ih (b := b <<< 1) (by rwa [hshift, Nat.add_comm])
      rw [hshift] at hlow hhigh
      simp only [hlead, decide_false, Bool.false_eq_true, if_false]
      exact ⟨by omega, hlow, hhigh⟩

/-- The count of PRIOR for a nonzero operand: fifteen shifts are enough. -/
theorem priorValue_spec {b : Word} (hb : b ≠ 0) :
    (priorValue b).toNat ≤ 15 ∧ 2 ^ 15 ≤ b.toNat * 2 ^ (priorValue b).toNat ∧
      b.toNat * 2 ^ (priorValue b).toNat < 2 ^ 16 := by
  have hpos : 0 < b.toNat := Nat.pos_of_ne_zero fun h => hb (BitVec.eq_of_toNat_eq h)
  have hcount := priorCount_spec (fuel := 15) (Nat.le_mul_of_pos_left _ hpos)
  have hvalue : (priorValue b).toNat = priorCount 15 b := by
    rw [priorValue, if_neg hb, BitVec.toNat_ofNat]
    omega
  rwa [hvalue]

end Sys2Proof.Machine

namespace Sys2Proof.Proofs

open Sys2Proof.Machine

/-- Settles O37: each loop has its closed form, by the number of positions; the loop of PRIOR ends with the leading 1 in
bit 15. -/
theorem shiftValues : Obligations.ShiftValues := by
  refine ⟨fun a c hc => ?shifts, rfl, fun b hb => ?prior⟩
  case shifts =>
    simp only [ShiftOp.compute_eq _ a hc, ShiftOp.lastOut_eq]
    refine ⟨rfl, rfl, rfl, rfl, rfl, fun op => ⟨trivial, decide_eq_true_iff, trivial⟩, fun op hop => ?left,
      fun op hop => ?right⟩
    case left =>
      have hleft : op.isRight = false := by revert op; decide
      simp [hleft, ShiftOp.earlierOut]
    case right =>
      have hright : op.isRight = true := by revert op; decide
      simp [hright, ShiftOp.earlierOut]
  case prior =>
    obtain ⟨hle, hlow, hhigh⟩ := priorValue_spec hb
    refine ⟨Nat.lt_succ_of_le hle, hhigh, ?_⟩
    rw [BitVec.msb_eq_decide, BitVec.toNat_shiftLeft, Nat.shiftLeft_eq, Nat.mod_eq_of_lt hhigh]
    exact decide_eq_true hlow

end Sys2Proof.Proofs
end

section
/-! SUPPORT. The start of a sequence and its lock (42_atomic_ext.md R220 to R227). -/

namespace Sys2Proof.Machine

variable {s : State}

/-- With the bank in RAM the override is the register as it stands now (R223, R225). -/
theorem startSequenceFrom_bank (hbank : BankInRam s) (g : BitVec 2) (esfr : Bool) (k : OverrideKind) (m : BitVec 4) :
    startSequenceFrom g esfr k m s = startSequence g esfr (k.ofWord s.cfg.device (gprWord m s)) 2 s := by
  simp [startSequenceFrom, readGpr_bank hbank, bind, Except.bind]

/-- Outside a sequence one starts (R220 item 1). -/
theorem finish_startSequence_outside (h : s.seq.count = 0) (g : BitVec 2) (esfr : Bool) (o : Override) (len : Nat) :
    finish s (startSequence g esfr o len s) =
      .next { s with seq := sequenceState g esfr o, ip := s.ip + BitVec.ofNat 16 len } := by
  rw [startSequence_ok.2 ⟨h, rfl⟩]
  rfl

/-- Inside a sequence none starts (R227 a). -/
theorem finish_startSequence_inside (h : s.seq.count ≠ 0) (g : BitVec 2) (esfr : Bool) (o : Override) (len : Nat) :
    finish s (startSequence g esfr o len s) = .refused .nestedSequence := by
  rw [startSequence, if_pos h]
  rfl

/-- Outside a sequence one starts with the override in a register, IP moving over the two bytes. -/
theorem finish_startSequenceFrom_outside (hbank : BankInRam s) (h : s.seq.count = 0) (g : BitVec 2) (esfr : Bool)
    (k : OverrideKind) (m : BitVec 4) :
    finish s (startSequenceFrom g esfr k m s) =
      .next { s with seq := sequenceState g esfr (k.ofWord s.cfg.device (gprWord m s)), ip := s.ip + 2 } := by
  rw [startSequenceFrom_bank hbank]
  exact finish_startSequence_outside h g esfr _ 2

/-- Inside a sequence none starts, whatever the register has. -/
theorem finish_startSequenceFrom_inside (hbank : BankInRam s) (h : s.seq.count ≠ 0) (g : BitVec 2) (esfr : Bool)
    (k : OverrideKind) (m : BitVec 4) :
    finish s (startSequenceFrom g esfr k m s) = .refused .nestedSequence := by
  rw [startSequenceFrom_bank hbank]
  exact finish_startSequence_inside h g esfr _ 2

/-- Inside a sequence only a class B request is due, where traps are entered (R220 item 2; 60_exceptions.md R405). -/
theorem quiet_of_sequence (hrun : s.runState = .running) (hmodelled : s.cfg.trapEntry = .modelled)
    (hseq : s.seq.count ≠ 0) (hreset : s.pending.reset = false) (hwdt : s.pending.wdtOverflow = false)
    (hclassB : s.pending.classB = none) : Quiet s := by
  refine ⟨hreset, hrun, ?watchdog, ?classB, ?limit, fun h => absurd h hseq⟩
  case watchdog => simp [watchdogResets, hwdt]
  case classB => simp [dueClassB, hmodelled, hclassB]
  case limit => simp [limitFault, hmodelled]

end Sys2Proof.Machine

namespace Sys2Proof.Proofs

open Sys2Proof.Machine

/-- Settles O21: with a sequence running the step is quiet whatever else is pending. -/
theorem sequenceLock : Obligations.SequenceLock := by
  intro s p hs hmodelled hseq hreset hwdt hclassB
  obtain ⟨-, hrun, -⟩ := hs
  exact step_quiet (s := { s with pending := p }) (quiet_of_sequence hrun hmodelled hseq hreset hwdt hclassB)

/-- Settles O52: the ten forms are one operation, with the override written out or read from a register of the bank. -/
theorem sequenceResult : Obligations.SequenceResult := by
  intro s g m p sg
  refine ⟨fun hc => ?outside, fun hc => ⟨?inside, fun hbank => ?insideRegister⟩⟩
  case outside =>
    have hdata := finish_startSequence_outside hc g
    refine ⟨hdata false .none 2, hdata true .none 2, hdata false (.page p) 4, hdata true (.page p) 4,
      hdata false (.seg sg) 4, hdata true (.seg sg) 4, fun hbank => ?_⟩
    have hregister esfr k := finish_startSequenceFrom_outside hbank hc g esfr k m
    exact ⟨hregister false .page, hregister true .page, hregister false .seg, hregister true .seg⟩
  case inside =>
    have hdata := finish_startSequence_inside hc g
    simp only [List.forall_mem_cons]
    exact ⟨hdata false .none 2, hdata true .none 2, hdata false (.page p) 4, hdata true (.page p) 4,
      hdata false (.seg sg) 4, hdata true (.seg sg) 4, List.forall_mem_nil _⟩
  case insideRegister =>
    have hregister esfr k := finish_startSequenceFrom_inside hbank hc g esfr k m
    simp only [List.forall_mem_cons]
    exact ⟨hregister false .page, hregister true .page, hregister false .seg, hregister true .seg,
      List.forall_mem_nil _⟩

end Sys2Proof.Proofs
end

section
/-! SUPPORT. What the instructions and the end of a step leave of the sequence and of the watchdog (42_atomic_ext.md
R220 items 4 and 5; 60_exceptions.md R423, R424). -/

namespace Sys2Proof.Machine

/-! ## The operand forms of the data instructions -/

/-- The MOVB forms are one operation (47_data_move.md R352). -/
theorem exec_moveByteForm {i : Instr} {dst : Loc} {src : Src 8} (h : moveByteForm i = some (dst, src)) (s : State) :
    exec i s = finish s (moveB dst src i.length s) := by
  cases i <;> cases h <;> rfl

/-- The instruction is of one of the families with many operand forms. -/
def hasForm (i : Instr) : Bool :=
  (aluWordForm i).isSome || (aluByteForm i).isSome || (compareForm i).isSome || (shiftForm i).isSome ||
    (moveWordForm i).isSome || (moveByteForm i).isSome || (extendForm i).isSome

/-- Unless a class B event undoes it, an instruction with a form keeps what the basic updates keep. -/
theorem hasForm_keeps {P : State → Prop} (hP : Stable P) {i : Instr} (hform : hasForm i = true) {s t : State}
    (h : exec i s = .next t) (hn : ¬ trapped s t) (hs : P s) : P t := by
  have hok {r : Res State} (hi : exec i s = finish s r) : r = .ok t := finish_ok_of_not_trapped (hi.symm.trans h) hn
  simp only [hasForm, Bool.or_eq_true, Option.isSome_iff_exists, Prod.exists, or_assoc] at hform
  rcases hform with ⟨_, _, _, hi⟩ | ⟨_, _, _, hi⟩ | ⟨_, _, _, hi⟩ | ⟨_, _, _, hi⟩ | ⟨_, _, hi⟩ |
    ⟨_, _, hi⟩ | ⟨_, _, _, hi⟩
  · exact aluW_keeps hP (hok (exec_aluWordForm hi s)) hs
  · exact aluB_keeps hP (hok (exec_aluByteForm hi s)) hs
  · exact compareStep_keeps hP (hok (exec_compareForm hi s)) hs
  · exact shiftOp_keeps hP (hok (exec_shiftForm hi s)) hs
  · exact moveW_keeps hP (hok (exec_moveWordForm hi s)) hs
  · exact moveB_keeps hP (hok (exec_moveByteForm hi s)) hs
  · exact moveExtend_keeps hP (hok (exec_extendForm hi s)) hs

/-! ## The sequence through an instruction -/

/-- A core register written leaves the sequence. -/
@[simp] theorem storedCore_seq (r : CoreReg) (v : Word) (s : State) : (storedCore r v s).seq = s.seq := by
  cases r with
  | dpp k => simp only [storedCore, State.setDpp]; split <;> rfl
  | _ => rfl

/-- The data instructions, the transfers and the entries leave the sequence. -/
theorem seq_stableFar (q : Seq) : StableFar fun s => s.seq = q where
  ip _ _ h := h
  flags _ _ h := h
  draws _ _ h := h
  mdc _ _ h := h
  md _ _ _ h := h
  push _ h := h
  pop _ h := h
  core r v s _ h := (storedCore_seq r v s).trans h
  store _ _ _ _ h := h
  drive _ _ _ _ h := h
  note _ _ _ h := h
  overflow s h := by
    obtain ⟨v, p, hs⟩ := requestStackOverflow_state s
    rwa [hs]
  underflow s h := by
    obtain ⟨v, p, hs⟩ := requestStackUnderflow_state s
    rwa [hs]
  csp _ _ h := h
  cspClear _ h := h
  level _ _ h := h
  frames _ _ h := h

/-- A class B event breaks the sequence (60_exceptions.md R408). -/
theorem trapped_seq {s t : State} (h : trapped s t) : t.seq = {} := by
  obtain ⟨e, rfl⟩ := h
  rfl

/-- An instruction that is not undone leaves the sequence, but those that start one, and SRST. -/
theorem exec_seq {i : Instr} {s t : State} (h : exec i s = .next t) (hstart : startsSequence i = false)
    (hsrst : i ≠ .srst) (hn : ¬ trapped s t) : t.seq = s.seq := by
  have hF := seq_stableFar s.seq
  have hN := hF.toStable
  have hok {r : Res State} (h : finish s r = .next t) : r = .ok t := finish_ok_of_not_trapped h hn
  cases i with
  | atomic | extr | extsRw | extsSeg | extpRw | extpPag | extsrRw | extsrSeg | extprRw | extprPag => cases hstart
  | srst => exact absurd rfl hsrst
  | priorRwRw => exact priorOp_keeps hN (hok h) rfl
  | bfldl | bfldh => exact bitField_keeps hN (hok h) rfl
  | bcmp | bor | band | bxor => exact twoBit_keeps hN (hok h) rfl
  | bmovn | bmov => exact moveBit_keeps hN (hok h) rfl
  | bclr | bset => exact writeBit_keeps hN (hok h) rfl
  | jb | jnb => exact jumpOnBit_keeps hN (hok h) rfl
  | jbc | jnbs => exact testAndChange_keeps hN (hok h) rfl
  | jmpa | jmpr => cases h; exact jumpIf_keeps hN _ _ _ s rfl
  | jmpi => exact jumpIndirect_keeps hN (hok h) rfl
  | calla | callr => exact callTo_keeps hN (hok h) rfl
  | calli => exact callIndirect_keeps hN (hok h) rfl
  | calls => exact callSegment_keeps hF (hok h) rfl
  | pcall => exact pushCall_keeps hN (hok h) rfl
  | ret => exact returnNear_keeps hN (hok h) rfl
  | rets => exact returnFar_keeps hF (hok h) rfl
  | retp => exact returnPop_keeps hN (hok h) rfl
  | reti => exact returnFromTrap_keeps hF (hok h) rfl
  | trap => exact enterTrap_keeps hF (hok h) rfl
  | neg | cpl => exact unaryW_keeps hN (hok h) rfl
  | negb | cplb => exact unaryB_keeps hN (hok h) rfl
  | mulRwRw | muluRwRw => exact multiply_keeps hN (hok h) rfl
  | div | divu | divl | divlu => exact divide_keeps hN (hok h) rfl
  | pop => exact popReg_keeps hN (hok h) rfl
  | push => exact pushReg_keeps hN (hok h) rfl
  | scxtRegData16 | scxtRegMem => exact switchContext_keeps hN (hok h) rfl
  | jmps | diswdt | einit | srvwdt | nop => cases h; rfl
  | idle => obtain ⟨-, rfl⟩ := enterIdle_ok.1 (hok h); rfl
  | pwrdn => obtain ⟨-, rfl | rfl⟩ := powerDown_ok (hok h) <;> rfl
  | _ => exact hasForm_keeps hN rfl h hn rfl

/-! ## The end of an instruction's step -/

/-- SRST has its mnemonic alone. -/
theorem mnemonic_srst_iff {i : Instr} : i.mnemonic = .srst ↔ i = .srst := by
  refine ⟨fun h => ?_, fun h => by rw [h]; rfl⟩
  cases i with
  | srst => rfl
  | _ => cases h

/-- SRVWDT has its mnemonic alone. -/
theorem mnemonic_srvwdt_iff {i : Instr} : i.mnemonic = .srvwdt ↔ i = .srvwdt := by
  refine ⟨fun h => ?_, fun h => by rw [h]; rfl⟩
  cases i with
  | srvwdt => rfl
  | _ => cases h

/-- The watchdog's move does not depend on the sequence and on whether the count is known. -/
theorem tick_seq_wdtExact (s : State) (q : Seq) (b : Bool) :
    ({ s with seq := q, wdtExact := b } : State).tick = { s.tick with seq := q, wdtExact := b } := by
  unfold State.tick
  dsimp only
  cases s.cfg.wdtRate with
  | none => rfl
  | some rate =>
    dsimp only
    split
    · rfl
    · rfl

/-- The end of the step of an instruction other than SRST: the watchdog's move, and the count down of a sequence. -/
theorem afterInstr_eq {i : Instr} (h : i ≠ .srst) (s : State) :
    afterInstr i s = { s.tick with
      seq := if startsSequence i then s.seq else countDown s.seq, wdtExact := decide (i = .srvwdt) } := by
  simp only [afterInstr, mnemonic_srst_iff, if_neg h, tick_seq_wdtExact, mnemonic_srvwdt_iff]

/-- The count down by one, where the last one drops the overrides (R220 item 4). -/
theorem countDown_eq (q : Seq) :
    countDown q = if q.count = 1 then {} else { q with count := q.count - 1 } := by
  obtain ⟨count, esfr, page, seg⟩ := q
  match count with
  | 0 => rfl
  | 1 => rfl
  | n + 2 => simp [countDown]

end Sys2Proof.Machine

namespace Sys2Proof.Proofs

open Sys2Proof.Machine

/-- Settles O16: an instruction that is not undone leaves the sequence, and the end of its step counts it down. -/
theorem sequenceCount : Obligations.SequenceCount := by
  refine ⟨fun i s t h hstart hsrst => ⟨trapped_seq, fun hn => ?sequence⟩, fun i t hsrst => ?watchdog⟩
  case sequence =>
    have hseq := exec_seq h hstart hsrst hn
    refine ⟨hseq, ?_⟩
    rw [afterInstr_eq hsrst, hstart, hseq]
    exact countDown_eq s.seq
  case watchdog =>
    rw [afterInstr_eq hsrst]
    exact ⟨rfl, rfl, rfl⟩

end Sys2Proof.Proofs
end

section
/-! SUPPORT. What the bit and bit-field instructions do where their WORDs can be read and op1 takes its value (43_bit.md
R243 to R253; 20_memory.md R74). -/

namespace Sys2Proof.Machine

variable {s u : State}

/-! ## The WORD of a bit operand -/

/-- After reads the WORD of a bit operand is read where it lay before them. -/
theorem ReadsOnly.readBitWord_loaded (h : ReadsOnly s u) {q : Byte}
    (hread : accessStop .word (bitWordAddr q s) s.cfg = none) :
    readBitWord q u = .ok (loadedW (bitWordAddr q s) u) := by
  rw [readBitWord, h.bitWordAddr_eq]
  obtain ⟨mdc, d, rfl, -⟩ := h
  exact (memReadW_ok ..).2 ⟨hread, rfl⟩

/-- After reads and the flags the WORD of a bit operand is written where it lay before them (R253). -/
theorem ReadsOnly.writeBitWord_put (h : ReadsOnly s u) {q : Byte} {v : Word}
    (hwrite : writeStop .word (bitWordAddr q s) v s = none) (f : Flags) :
    writeBitWord q v (u.setFlags f) = .ok (putW (bitWordAddr q s) v (u.setFlags f)) := by
  have haddr : bitWordAddr q (u.setFlags f) = bitWordAddr q s := h.bitWordAddr_eq q
  rw [writeBitWord, haddr]
  obtain ⟨mdc, d, rfl, -⟩ := h
  exact writeDstW_put ((writeStop_congr _ _ _ rfl rfl).trans hwrite)

/-! ## The groups -/

/-- BFLDL and BFLDH: the flags of the whole new WORD, then the WORD (R246, R247). -/
theorem bitField_put {q : Byte} {f : Word → Word} (hread : accessStop .word (bitWordAddr q s) s.cfg = none) :
    let pa := bitWordAddr q s
    let r := f (loadedW pa s).1
    writeStop .word pa r s = none →
      bitField q f s =
        .ok ((putW pa r ((loadedW pa s).2.setFlags ⟨false, decide (r = 0), false, false, r.msb⟩)).advance 4) := by
  intro pa r hwrite
  have hput := (loadedW_readsOnly pa s).writeBitWord_put hwrite
  simp only [bitField, (ReadsOnly.refl s).readBitWord_loaded hread, bind, Except.bind]
  rw [hput]

/-- BCLR and BSET: the flags of the bit as it was, then the WORD with the bit written (R244, R251). -/
theorem writeBit_put {b : BitAddr} {v : Bool} (hread : accessStop .word (bitWordAddr b.word s) s.cfg = none) :
    let pa := bitWordAddr b.word s
    let w := (loadedW pa s).1
    writeStop .word pa (withBitAt w b.bit v) s = none →
      writeBit v b s =
        .ok ((putW pa (withBitAt w b.bit v) ((loadedW pa s).2.setFlags (oneBitFlags (bitAt w b.bit)))).advance 2) := by
  intro pa w hwrite
  have hput := (loadedW_readsOnly pa s).writeBitWord_put hwrite
  simp only [writeBit, (ReadsOnly.refl s).readBitWord_loaded hread, bind, Except.bind]
  rw [hput]

/-- The two-bit instructions: op1 is read, then op2, then the flags of the two bits, then op1's WORD unless it is BCMP
(R243, R245, R250, R252). -/
theorem twoBit_loaded {dst src : BitAddr} (op : BitOp) (hdst : accessStop .word (bitWordAddr dst.word s) s.cfg = none)
    (hsrc : accessStop .word (bitWordAddr src.word s) s.cfg = none) :
    twoBit op dst src s =
      (let w := loadedW (bitWordAddr dst.word s) s
       let x := loadedW (bitWordAddr src.word s) w.2
       let a := bitAt w.1 dst.bit
       let c := bitAt x.1 src.bit
       (if op = .cmp then .ok (x.2.setFlags (twoBitFlags a c))
        else writeBitWord dst.word (withBitAt w.1 dst.bit (op.compute a c)) (x.2.setFlags (twoBitFlags a c))) >>= fun t =>
          .ok (t.advance 4)) := by
  have hreads := loadedW_readsOnly (bitWordAddr dst.word s) s
  simp only [twoBit, (ReadsOnly.refl s).readBitWord_loaded hdst, hreads.readBitWord_loaded hsrc, bind, Except.bind]

/-- BAND, BOR and BXOR write op1's bit. -/
theorem twoBit_put {dst src : BitAddr} {op : BitOp} (hop : op ≠ .cmp)
    (hdst : accessStop .word (bitWordAddr dst.word s) s.cfg = none)
    (hsrc : accessStop .word (bitWordAddr src.word s) s.cfg = none) :
    let pd := bitWordAddr dst.word s
    let ps := bitWordAddr src.word s
    let w := loadedW pd s
    let x := loadedW ps w.2
    let a := bitAt w.1 dst.bit
    let c := bitAt x.1 src.bit
    let v := withBitAt w.1 dst.bit (op.compute a c)
    writeStop .word pd v s = none →
      twoBit op dst src s = .ok ((putW pd v (x.2.setFlags (twoBitFlags a c))).advance 4) := by
  intro pd ps w x a c v hwrite
  have hput := ((loadedW_readsOnly pd s).trans (loadedW_readsOnly ps w.2)).writeBitWord_put hwrite
  rw [twoBit_loaded op hdst hsrc]
  simp only [if_neg hop]
  rw [hput]
  rfl

/-- BMOV and BMOVN: op2 is read, then op1, then the flags of op2's bit, then op1's WORD with its bit written (R248,
R249). -/
theorem moveBit_put {dst src : BitAddr} {f : Bool → Bool}
    (hdst : accessStop .word (bitWordAddr dst.word s) s.cfg = none)
    (hsrc : accessStop .word (bitWordAddr src.word s) s.cfg = none) :
    let pd := bitWordAddr dst.word s
    let ps := bitWordAddr src.word s
    let x := loadedW ps s
    let w := loadedW pd x.2
    let c := bitAt x.1 src.bit
    let v := withBitAt w.1 dst.bit (f c)
    writeStop .word pd v s = none →
      moveBit f dst src s = .ok ((putW pd v (w.2.setFlags (oneBitFlags c))).advance 4) := by
  intro pd ps x w c v hwrite
  have hreads := loadedW_readsOnly (bitWordAddr src.word s) s
  have hput := (hreads.trans (loadedW_readsOnly pd x.2)).writeBitWord_put hwrite
  simp only [moveBit, (ReadsOnly.refl s).readBitWord_loaded hsrc, hreads.readBitWord_loaded hdst, bind, Except.bind]
  rw [hput]

/-! ## One bit -/

/-- Each bit of a WORD with bit `q` replaced (20_memory.md R74). -/
theorem getLsbD_withBitAt (w : Word) (q : BitVec 4) (b : Bool) {j : Nat} (hj : j < 16) :
    (withBitAt w q b).getLsbD j = if j = q.toNat then b else w.getLsbD j := by
  simp only [withBitAt, getLsbD_withBit, hj, and_true]

end Sys2Proof.Machine

namespace Sys2Proof.Proofs

open Sys2Proof.Machine

/-- Settles O38: the reads leave the addresses and what stops the write of op1, so each group writes where the hypothesis
lets it. -/
theorem bitResult : Obligations.BitResult := by
  refine fun s dst src b q mask data => ⟨?field, ?oneBit, ?twoBits, ?move⟩
  case field =>
    intro pa w lo hi hread
    exact ⟨fun hwrite => congrArg (finish s) (bitField_put (f := fieldLow mask data) hread hwrite),
      fun hwrite => congrArg (finish s) (bitField_put (f := fieldHigh mask data) hread hwrite)⟩
  case oneBit =>
    intro pa w u hread
    exact ⟨fun hwrite => congrArg (finish s) (writeBit_put hread hwrite),
      fun hwrite => congrArg (finish s) (writeBit_put hread hwrite)⟩
  case twoBits =>
    intro pd ps w a c u hdst hsrc
    exact ⟨congrArg (finish s) (twoBit_loaded .cmp hdst hsrc),
      fun hwrite => congrArg (finish s) (twoBit_put (op := .and) nofun hdst hsrc hwrite),
      fun hwrite => congrArg (finish s) (twoBit_put (op := .or) nofun hdst hsrc hwrite),
      fun hwrite => congrArg (finish s) (twoBit_put (op := .xor) nofun hdst hsrc hwrite)⟩
  case move =>
    intro pd ps c w u hdst hsrc
    exact ⟨fun hwrite => congrArg (finish s) (moveBit_put (f := id) hdst hsrc hwrite),
      fun hwrite => congrArg (finish s) (moveBit_put (f := not) hdst hsrc hwrite)⟩

/-- Settles O39: each flag is its connective of the two bits, and a WORD with one bit replaced is known bit by bit. -/
theorem bitValues : Obligations.BitValues := by
  refine ⟨fun a b => ⟨rfl, ?zero, Bool.or_eq_true_iff, Bool.and_eq_true_iff, Bool.xor_iff_ne⟩, fun b => rfl,
    fun w q b j hj => getLsbD_withBitAt w q b hj⟩
  case zero =>
    simp [twoBitFlags]

end Sys2Proof.Proofs
end

section
/-! SUPPORT. The conditions and the jumps (44_call_jump_return.md R270, R271, R278 to R281). -/

namespace Sys2Proof.Machine

variable {s : State} {w : Nat}

/-! ## Conditions after a compare -/

/-- Without a borrow the difference is the plain one. -/
theorem subFlags_difference (a b : BitVec w) : (subFlags a b false).1 = a - b :=
  (subFlags_value a b false).trans (BitVec.sub_zero _)

/-- A difference is 0 iff its operands are equal. -/
theorem subFlags_zero (a b : BitVec w) : (subFlags a b false).2.z = true ↔ a = b := by
  have hzero : (subFlags a b false).2.z = decide ((subFlags a b false).1 = 0) := rfl
  rw [hzero, decide_eq_true_iff, subFlags_difference]
  exact sub_eq_zero

/-- A subtraction's sign is wrong just where it overflows, so N differs from V iff op1 is the lesser signed number. -/
theorem subFlags_less (hw : 0 < w) (a b : BitVec w) :
    ((subFlags a b false).2.n ^^ (subFlags a b false).2.v) = true ↔ a.toInt < b.toInt := by
  have hsign : (subFlags a b false).2.n = (a - b).msb := congrArg BitVec.msb (subFlags_difference a b)
  have hover : (subFlags a b false).2.v = true ↔ a.msb ≠ b.msb ∧ (a - b).msb ≠ a.msb := by
    rw [← subFlags_difference, subFlags_value]
    exact signedOverflow_sub_iff hw a b false
  have hdiff : (a - b).toNat = if b.toNat ≤ a.toNat then a.toNat - b.toNat else 2 ^ w + a.toNat - b.toNat := by
    have ha := a.isLt
    rw [BitVec.toNat_sub]
    split
    · rw [show 2 ^ w - b.toNat + a.toNat = (a.toNat - b.toNat) + 2 ^ w by omega, Nat.add_mod_right,
        Nat.mod_eq_of_lt (by omega)]
    · rw [Nat.mod_eq_of_lt (by omega)]
      omega
  have ha := a.isLt
  have hb := b.isLt
  rw [Bool.xor_iff_ne, hsign, ne_eq, Bool.eq_iff_iff, hover, BitVec.toInt_eq_toNat_cond, BitVec.toInt_eq_toNat_cond]
  simp only [BitVec.msb_eq_decide, decide_eq_decide, decide_eq_true_iff, hdiff, ne_eq,
    ← Nat.two_pow_pred_mul_two hw] at ha hb ⊢
  generalize 2 ^ (w - 1) = half at ha hb ⊢
  split_ifs <;> omega

/-! ## Jumps -/

/-- A jump is a choice of IP (R278, R280). -/
theorem jumpIf_eq (cc : Cond) (t : Word) (len : Nat) (s : State) :
    jumpIf cc t len s = { s with ip := if condHolds s.flags cc then t else s.nextIp len } := by
  unfold jumpIf
  split <;> rfl

/-- JMPI jumps to the content of a register of the bank (R279). -/
theorem jumpIndirect_bank (hbank : BankInRam s) (cc : Cond) (n : BitVec 4) :
    jumpIndirect cc n s = .ok (jumpIf cc (gprWord n s) 2 s) := by
  simp only [jumpIndirect, readGpr_bank hbank, jumpIf, bind, Except.bind]
  split <;> rfl

end Sys2Proof.Machine

namespace Sys2Proof.Proofs

open Sys2Proof.Machine

/-- Settles O47: a jump chooses IP, and JMPI is one to a register's content. -/
theorem jumpResult : Obligations.JumpResult := by
  intro s cc a rel sg n
  refine ⟨congrArg Host.Outcome.next (jumpIf_eq cc a 4 s),
    congrArg Host.Outcome.next (jumpIf_eq cc (relTarget rel 2 s) 2 s), rfl, fun hbank => ?indirect⟩
  case indirect =>
    show finish s (jumpIndirect cc n s) = _
    rw [jumpIndirect_bank hbank, finish_ok, jumpIf_eq]
    rfl

/-- Settles O48: the codes one by one; after a compare Z is equality, C the unsigned order, and N against V the signed
one. -/
theorem conditionRule : Obligations.ConditionRule := by
  refine ⟨by decide, fun f => ⟨rfl, rfl, rfl, rfl, rfl, rfl, rfl, rfl, rfl, rfl, rfl, rfl, rfl, rfl, rfl, rfl⟩,
    fun a b => ?compare⟩
  case compare =>
    intro f
    have hequal : f.z = true ↔ a = b := subFlags_zero a b
    have hsigned : (f.n ^^ f.v) = true ↔ a.toInt < b.toInt := subFlags_less (by decide) a b
    have hunsigned : f.c = true ↔ a.toNat < b.toNat := subFlags_carry a b false
    have hint : a = b ↔ a.toInt = b.toInt := BitVec.toInt_inj.symm
    have hnat : a.toInt = b.toInt ↔ a.toNat = b.toNat := BitVec.toInt_inj.trans BitVec.toNat_inj.symm
    simp only [condHolds, Bool.not_eq_true', ← Bool.not_eq_true, Bool.or_eq_true, hequal, hsigned, hunsigned, hint]
    exact ⟨by omega, by omega, trivial, by omega, by omega, by omega, trivial, trivial⟩

end Sys2Proof.Proofs
end

section
/-! SUPPORT. The jumps on a bit (44_call_jump_return.md R276, R277, R282, R283). -/

namespace Sys2Proof.Machine

variable {s u : State} {on : Bool} {b : BitAddr} {rel : Byte}

/-! ## IP through an instruction -/

/-- Reads leave IP. -/
theorem ReadsOnly.ip_eq (h : ReadsOnly s u) : u.ip = s.ip := by
  obtain ⟨mdc, d, rfl, -⟩ := h
  rfl

/-- A core register written is not IP. -/
@[simp] theorem storedCore_ip (r : CoreReg) (v : Word) (s : State) : (storedCore r v s).ip = s.ip := by
  cases r with
  | dpp k =>
    obtain ⟨_, _, _, _, hset⟩ := setDpp_state s k v
    rw [storedCore, hset]
  | _ => rfl

/-- A WORD written leaves IP. -/
@[simp] theorem storedW_ip (pa : PhysAddr) (v : Word) (s : State) : (storedW pa v s).ip = s.ip := by
  unfold storedW
  split
  · exact storedCore_ip _ v s
  · rfl
  · rfl

/-- A WORD destination written leaves IP. -/
@[simp] theorem putW_ip (pa : PhysAddr) (v : Word) (s : State) : (putW pa v s).ip = s.ip := by
  rw [← storedW_ip pa v s, putW, State.noteWrite]
  split <;> rfl

/-! ## The flags of JBC and JNBS -/

/-- `BITJUMP_EVC` decides no more than E, V and C, and takes no more than draws (R277, R283). -/
theorem bitJumpFlags_draws (x : Bool) (s : State) :
    (bitJumpFlags x s).2 = { s with draws := (bitJumpFlags x s).2.draws } := by
  unfold bitJumpFlags
  split <;> rfl

/-- So to take them is no more than a read. -/
theorem bitJumpFlags_readsOnly (x : Bool) (s : State) : ReadsOnly s (bitJumpFlags x s).2 :=
  ⟨s.mdc, (bitJumpFlags x s).2.draws, bitJumpFlags_draws x s, rfl⟩

/-- Z and N say what the bit was, whatever `BITJUMP_EVC` is. -/
theorem bitJumpFlags_bit (x : Bool) (s : State) : (bitJumpFlags x s).1.z = !x ∧ (bitJumpFlags x s).1.n = x := by
  unfold bitJumpFlags
  split <;> exact ⟨rfl, rfl⟩

/-- E, V and C cleared. -/
theorem bitJumpFlags_cleared (h : s.cfg.bitJumpEvc = .cleared) (x : Bool) : bitJumpFlags x s = (oneBitFlags x, s) := by
  simp only [bitJumpFlags, h]

/-- E, V and C as they were. -/
theorem bitJumpFlags_unchanged (h : s.cfg.bitJumpEvc = .unchanged) (x : Bool) :
    bitJumpFlags x s = ({ s.flags with z := !x, n := x }, s) := by
  simp only [bitJumpFlags, h]

/-! ## The instructions -/

/-- JB and JNB choose IP by the bit (R276, R282). -/
theorem jumpOnBit_loaded (hread : accessStop .word (bitWordAddr b.word s) s.cfg = none) :
    let x := loadedW (bitWordAddr b.word s) s
    jumpOnBit on b rel s = .ok { x.2 with
      ip := if bitAt x.1 b.bit = on then s.ip + 4 + 2 * rel.signExtend 16 else s.ip + 4 } := by
  intro x
  have hip : x.2.ip = s.ip := (loadedW_readsOnly _ s).ip_eq
  simp only [jumpOnBit, (ReadsOnly.refl s).readBitWord_loaded hread, bind, Except.bind]
  rw [← hip]
  split <;> rfl

/-- JBC and JNBS that jump: the flags, then the WORD with the bit inverted, then IP (R277, R283). -/
theorem testAndChange_taken (hread : accessStop .word (bitWordAddr b.word s) s.cfg = none) :
    let pa := bitWordAddr b.word s
    let x := loadedW pa s
    let f := bitJumpFlags (bitAt x.1 b.bit) x.2
    let v := withBitAt x.1 b.bit !on
    bitAt x.1 b.bit = on → writeStop .word pa v s = none →
      testAndChange on b rel s =
        .ok ((putW pa v (f.2.setFlags f.1)).jumpTo (s.ip + 4 + 2 * rel.signExtend 16)) := by
  intro pa x f v hbit hwrite
  have hreads : ReadsOnly s f.2 := (loadedW_readsOnly pa s).trans (bitJumpFlags_readsOnly _ x.2)
  have hput := hreads.writeBitWord_put hwrite f.1
  have htarget : relTarget rel 4 (putW pa v (f.2.setFlags f.1)) = s.ip + 4 + 2 * rel.signExtend 16 := by
    rw [relTarget, State.nextIp, putW_ip, State.setFlags_ip, hreads.ip_eq]
    rfl
  simp only [testAndChange, (ReadsOnly.refl s).readBitWord_loaded hread, bind, Except.bind]
  rw [if_pos hbit, hput, ← htarget]

/-- JBC and JNBS that go on write the flags (R277, R283). -/
theorem testAndChange_not_taken (hread : accessStop .word (bitWordAddr b.word s) s.cfg = none) :
    let x := loadedW (bitWordAddr b.word s) s
    let f := bitJumpFlags (bitAt x.1 b.bit) x.2
    bitAt x.1 b.bit = !on → testAndChange on b rel s = .ok ((f.2.setFlags f.1).advance 4) := by
  intro x f hbit
  simp only [testAndChange, (ReadsOnly.refl s).readBitWord_loaded hread, bind, Except.bind]
  rw [if_neg (Bool.eq_not.1 hbit)]

end Sys2Proof.Machine

namespace Sys2Proof.Proofs

open Sys2Proof.Machine

/-- Settles O49: the bit decides whether the jump is taken; JBC and JNBS write the flags before the WORD, and neither
moves IP. -/
theorem bitJumpResult : Obligations.BitJumpResult := by
  intro s b rel pa w u x f target hread
  obtain ⟨-, hcfg, -⟩ := loadedW_cp_cfg pa s
  obtain ⟨hz, hn⟩ := bitJumpFlags_bit (bitAt w b.bit) u
  refine ⟨congrArg (finish s) (jumpOnBit_loaded hread), ?jnb,
    fun hbit => congrArg (finish s) (testAndChange_not_taken (on := true) hread hbit),
    fun hbit => congrArg (finish s) (testAndChange_not_taken (on := false) hread hbit),
    fun hbit hwrite => congrArg (finish s) (testAndChange_taken hread hbit hwrite),
    fun hbit hwrite => congrArg (finish s) (testAndChange_taken hread hbit hwrite),
    hz, hn, fun hevc => ?cleared, fun hevc => ?unchanged, bitJumpFlags_draws _ u⟩
  case jnb =>
    have hjump := jumpOnBit_loaded (on := false) (rel := rel) hread
    simp only [← Bool.not_eq_true, ite_not] at hjump
    exact congrArg (finish s) hjump
  case cleared =>
    have hx : x = (oneBitFlags (bitAt w b.bit), u) :=
      bitJumpFlags_cleared ((congrArg Config.bitJumpEvc hcfg).trans hevc) _
    rw [hx]
    exact ⟨rfl, rfl, rfl, rfl⟩
  case unchanged =>
    have hx : x = ({ u.flags with z := !bitAt w b.bit, n := bitAt w b.bit }, u) :=
      bitJumpFlags_unchanged ((congrArg Config.bitJumpEvc hcfg).trans hevc) _
    rw [hx]
    exact ⟨rfl, rfl, rfl, rfl⟩

end Sys2Proof.Proofs
end

section
/-! SUPPORT. The calls and the returns (44_call_jump_return.md R272 to R275, R284, R285, R287, R288). -/

namespace Sys2Proof.Machine

variable {s u : State}

/-! ## Pushes and pops wherever the stack lies -/

/-- A push leaves IP. -/
@[simp] theorem pushed_ip (v : Word) (s : State) : (pushed v s).ip = s.ip := by
  rw [pushed, checkOverflow_eq]
  exact storedW_ip _ v _

/-- A push keeps the parameters. -/
@[simp] theorem pushed_cfg (v : Word) (s : State) : (pushed v s).cfg = s.cfg := by
  rw [pushed, checkOverflow_cfg, storedW]
  split
  · exact storedCore_cfg _ v _
  · rfl
  · rfl

/-- A push that nothing stops. -/
theorem push_pushed {v : Word} (h : pushStop v s = none) : push v s = .ok (pushed v s) := push_ok.2 ⟨h, rfl⟩

/-- Reads change nothing of what stops a push. -/
theorem ReadsOnly.pushStop_eq (h : ReadsOnly s u) (v : Word) : pushStop v u = pushStop v s := by
  obtain ⟨mdc, d, rfl, -⟩ := h
  exact writeStop_congr _ _ _ rfl rfl

/-- A pop that nothing stops. -/
theorem pop_popped (h : popStop s = none) : pop s = .ok (popped s) :=
  (Res.bind_ok ..).2 ⟨_, (memReadW_ok ..).2 ⟨h, rfl⟩, rfl⟩

/-- A pop moves SP, and its read and its check change no more than MDC, the draws, TFR and the requests. -/
theorem popped_same (s : State) : (popped s).2 = { s with
    sp := (popped s).2.sp, mdc := (popped s).2.mdc, draws := (popped s).2.draws, tfr := (popped s).2.tfr,
    pending := (popped s).2.pending } := by
  simp only [popped]
  rw [checkUnderflow_eq, loadedW_same]

/-- After two pops likewise. -/
theorem popped_popped_same (s : State) : ∃ sp mdc d tfr p, (popped (popped s).2).2 =
    { s with sp := sp, mdc := mdc, draws := d, tfr := tfr, pending := p } := by
  rw [popped_same (popped s).2, popped_same s]
  exact ⟨_, _, _, _, _, rfl⟩

/-! ## The calls -/

/-- CALLA and CALLR where the condition holds (R272, R274). -/
theorem callTo_taken {cc : Cond} (hcc : condHolds s.flags cc = true) {len : Nat}
    (hpush : pushStop (s.nextIp len) s = none) (t : Word) :
    callTo cc t len s = .ok ((pushed (s.nextIp len) s).jumpTo t) := by
  simp only [callTo, if_pos hcc, push_pushed hpush, bind, Except.bind]

/-- Where it does not they advance. -/
theorem callTo_not_taken {cc : Cond} (hcc : condHolds s.flags cc = false) (t : Word) (len : Nat) :
    callTo cc t len s = .ok (s.advance len) := by
  simp [callTo, hcc]

/-- CALLI calls the content of a register of the bank (R273). -/
theorem callIndirect_bank (hbank : BankInRam s) (cc : Cond) (n : BitVec 4) :
    callIndirect cc n s = callTo cc (gprWord n s) 2 s := by
  simp only [callIndirect, callTo, readGpr_bank hbank, bind, Except.bind]

/-- CALLI too advances where the condition does not hold, its register unread. -/
theorem callIndirect_not_taken {cc : Cond} (hcc : condHolds s.flags cc = false) (n : BitVec 4) :
    callIndirect cc n s = .ok (s.advance 2) := by
  simp [callIndirect, hcc]

/-- CALLS: CSP, then the return address (R275). -/
theorem callSegment_pushed (hcsp : pushStop s.csp s = none) (hret : pushStop (s.ip + 4) (pushed s.csp s) = none)
    (sg : Byte) (t : Word) :
    callSegment sg t s = .ok { pushed (s.ip + 4) (pushed s.csp s) with
      csp := maskSeg s.cfg.device (sg.setWidth 16), ip := t } := by
  have hnext : (pushed s.csp s).nextIp 4 = s.ip + 4 := by
    rw [State.nextIp, pushed_ip]
    rfl
  simp only [callSegment, push_pushed hcsp, hnext, push_pushed hret, jumpSegment, pushed_cfg, bind, Except.bind]

/-- PCALL: the operand, then the return address, then the flags of the operand (R284). -/
theorem pushCall_pushed {r : Byte} (hread : accessStop .word (regAddr r .word s) s.cfg = none) :
    let x := loadedW (regAddr r .word s) s
    let p := pushed x.1 x.2
    let q := pushed (s.ip + 4) p
    pushStop x.1 s = none → pushStop (s.ip + 4) p = none → ∀ t : Word,
      pushCall r t s = .ok ((q.setFlags (moveFlags x.1 q.flags)).jumpTo t) := by
  intro x p q hoperand hret t
  have hreads : ReadsOnly s x.2 := loadedW_readsOnly _ s
  have hload : memReadW (regAddr r .word s) s = .ok x := (memReadW_ok ..).2 ⟨hread, rfl⟩
  have hpush : push x.1 x.2 = .ok p := push_pushed ((hreads.pushStop_eq x.1).trans hoperand)
  have hnext : p.nextIp 4 = s.ip + 4 := by
    rw [State.nextIp, pushed_ip, hreads.ip_eq]
    rfl
  simp only [pushCall, hload, hpush, hnext, push_pushed hret, bind, Except.bind]
  rfl

/-! ## The returns -/

/-- RET: IP (R285). -/
theorem returnNear_popped (hpop : popStop s = none) : returnNear s = .ok ((popped s).2.jumpTo (popped s).1) := by
  simp only [returnNear, pop_popped hpop, bind, Except.bind]

/-- RETS: IP, then CSP, of which the segment bits are kept (R288). -/
theorem returnFar_popped (hpop : popStop s = none) (hcsp : popStop (popped s).2 = none) :
    let y := popped (popped s).2
    returnFar s = .ok { y.2 with ip := (popped s).1, csp := maskSeg s.cfg.device y.1 } := by
  intro y
  have hcfg : y.2.cfg = s.cfg := by
    obtain ⟨sp, mdc, d, tfr, p, hy⟩ := popped_popped_same s
    exact (congrArg State.cfg hy :)
  simp only [returnFar, pop_popped hpop, pop_popped hcsp, bind, Except.bind]
  rw [← hcfg]

/-- RETP: IP, then the operand, whose flags go in before it (R287). -/
theorem returnPop_popped {r : Byte} (hpop : popStop s = none) (hoperand : popStop (popped s).2 = none) :
    let y := popped (popped s).2
    writeStop .word (regAddr r .word s) y.1 s = none →
      returnPop r s =
        .ok ((putW (regAddr r .word s) y.1 (y.2.setFlags (moveFlags y.1 y.2.flags))).jumpTo (popped s).1) := by
  intro y hwrite
  have hput (f : Flags) : writeDstW (regAddr r .word (y.2.setFlags f)) y.1 (y.2.setFlags f) =
      .ok (putW (regAddr r .word s) y.1 (y.2.setFlags f)) := by
    obtain ⟨sp, mdc, d, tfr, p, hy⟩ : ∃ sp mdc d tfr p, y.2 = _ := popped_popped_same s
    have haddr : regAddr r .word (y.2.setFlags f) = regAddr r .word s := by
      rw [hy]
      rfl
    rw [haddr]
    refine writeDstW_put ((writeStop_congr _ _ _ ?_ ?_).trans hwrite) <;> rw [hy] <;> rfl
  simp only [returnPop, pop_popped hpop, pop_popped hoperand, bind, Except.bind]
  rw [hput]

end Sys2Proof.Machine

namespace Sys2Proof.Proofs

open Sys2Proof.Machine

/-- Settles O50: a push moves neither IP nor the parameters, so what follows one is what stood before it. -/
theorem callResult : Obligations.CallResult := by
  intro s cc a rel sg r n
  refine ⟨fun hcc => ⟨?calla_not, ?calli_not⟩, fun hcc => ⟨fun hpush => ?calla, fun hbank hpush => ?calli⟩,
    fun hpush => ?callr, fun hcsp hret => ?calls, fun hread hoperand hret => ?pcall⟩
  case calla_not => exact congrArg (finish s) (callTo_not_taken hcc a 4)
  case calli_not => exact congrArg (finish s) (callIndirect_not_taken hcc n)
  case calla => exact congrArg (finish s) (callTo_taken hcc hpush a)
  case calli => exact congrArg (finish s) ((callIndirect_bank hbank cc n).trans (callTo_taken hcc hpush _))
  case callr => exact congrArg (finish s) (callTo_taken (cc := .uc) rfl hpush _)
  case calls => exact congrArg (finish s) (callSegment_pushed hcsp hret sg a)
  case pcall => exact congrArg (finish s) (pushCall_pushed hread hoperand hret a)

/-- Settles O51: a pop changes nothing that the second pop's use or RETP's destination depends on. -/
theorem returnResult : Obligations.ReturnResult := by
  intro s r hpop x y
  refine ⟨congrArg (finish s) (returnNear_popped hpop), fun hpop' => ⟨?rets, fun hwrite => ?retp⟩⟩
  case rets => exact congrArg (finish s) (returnFar_popped hpop hpop')
  case retp => exact congrArg (finish s) (returnPop_popped hpop hpop' hwrite)

end Sys2Proof.Proofs
end

section
/-! SUPPORT. The entry of a trap or an interrupt, the stack in RAM (60_exceptions.md R401, R409; 44_call_jump_return.md
R289). -/

namespace Sys2Proof.Machine

variable {s r : State} {n : Nat}

/-! ## A run of pushes

Below the limit SP only falls further, so in a run of pushes the last check is the only one that counts. -/

/-- The check after a push, field by field (R409). -/
theorem checkOverflow_fields (s : State) : s.checkOverflow = { s with
    tfr := if s.sp < s.stkov ∧ s.cfg.trapEntry = .modelled then s.tfr ||| s.cfg.trapTable.stackOverflow.flag else s.tfr,
    pending := { s.pending with stackOverflow := s.pending.stackOverflow || decide (s.sp < s.stkov) } } := by
  unfold State.checkOverflow State.requestStackOverflow State.noteTrap
  by_cases hlimit : s.sp < s.stkov
  · cases s.cfg.trapEntry <;> simp [hlimit]
  · simp [hlimit]

/-- The check leaves SYSCON. -/
@[simp] theorem checkOverflow_sgtdis (s : State) : s.checkOverflow.sgtdis = s.sgtdis := by
  rw [checkOverflow_fields]
  rfl

/-- And CSP. -/
@[simp] theorem checkOverflow_csp (s : State) : s.checkOverflow.csp = s.csp := by rw [checkOverflow_fields]

/-- CSP written before the check or after it. -/
theorem checkOverflow_setCsp (s : State) (csp : Word) :
    { s.checkOverflow with csp := csp } = ({ s with csp := csp } : State).checkOverflow := by
  simp only [checkOverflow_fields]

/-- A WORD put below SP, the limit not yet checked. -/
def State.stacked (s : State) (v : Word) : State :=
  ({ s with sp := s.sp - 2 } : State).storeWord (s.sp.toNat - 2) v

/-- A push with room is that and the check. -/
theorem StackRoom.push_stacked (h : StackRoom (n + 1) s) (v : Word) : push v s = .ok (s.stacked v).checkOverflow := by
  rw [push_pushed (h.pushStop v), h.pushed_eq]
  rfl

/-- A check before a push is subsumed by the one after it. -/
theorem StackRoom.stacked_checkOverflow (h : StackRoom (n + 1) s) (v : Word) :
    (s.checkOverflow.stacked v).checkOverflow = (s.stacked v).checkOverflow := by
  have hsp := h.sp_toNat
  have hlimit : s.sp < s.stkov → s.sp - 2 < s.stkov := by
    rw [BitVec.lt_def, BitVec.lt_def]
    omega
  simp only [checkOverflow_fields, State.stacked, State.storeWord, State.storeByte]
  generalize s.sp - 2 = lowered at hlimit ⊢
  by_cases hs : s.sp < s.stkov
  · by_cases htrap : s.cfg.trapEntry = .modelled <;> simp [hs, hlimit hs, htrap, BitVec.or_assoc]
  · simp [hs]

/-- One push more in a run. -/
theorem StackRoom.push_checked (h : StackRoom (n + 1) s) (v : Word) :
    push v s.checkOverflow = .ok (s.stacked v).checkOverflow := by
  have hroom : StackRoom (n + 1) s.checkOverflow := by
    rw [checkOverflow_eq]
    exact h
  rw [hroom.push_stacked, h.stacked_checkOverflow]

/-- After it there is room for one WORD less. -/
theorem StackRoom.stacked (h : StackRoom (n + 1) s) (v : Word) : StackRoom n (s.stacked v) := h.below rfl rfl

/-- From `s` to `r` the WORDs `ws` have been put on the stack, the limit unchecked: they lie from the new SP up to the
old one, the last one put lowest, and no other byte has changed. -/
structure Stacks (ws : List Word) (s r : State) : Prop where
  sp : r.sp.toNat + 2 * ws.length = s.sp.toNat
  wf : r.mem.wf = true
  words : ∀ k v, ws[k]? = some v → stackWord k r = v
  mem : ∀ a, (a < r.sp.toNat ∨ s.sp.toNat ≤ a) → r.mem.get a = s.mem.get a

/-- Nothing put there. -/
theorem Stacks.nil (hwf : s.mem.wf = true) (psw : Word) : Stacks [] s { s with psw := psw } :=
  ⟨rfl, hwf, nofun, fun _ _ => rfl⟩

/-- One WORD more. -/
theorem Stacks.cons {ws : List Word} (h : Stacks ws s r) (hroom : StackRoom (n + 1) r) (v : Word) :
    Stacks (v :: ws) s (r.stacked v) := by
  have hsp : (r.stacked v).sp.toNat = r.sp.toNat - 2 := hroom.sp_toNat
  have hlow := hroom.two_le
  have hother {a : Nat} (ha : a < r.sp.toNat - 2 ∨ r.sp.toNat ≤ a) : (r.stacked v).mem.get a = r.mem.get a :=
    Memory.get_setWord_other _ v (by omega) (by omega)
  refine ⟨?sp, Memory.set_wf _ _ _ (Memory.set_wf _ _ _ h.wf), fun k w hw => ?words, fun a ha => ?mem⟩
  case sp =>
    rw [hsp, ← h.sp, List.length_cons]
    omega
  case words =>
    rw [stackWord, hsp]
    cases k with
    | zero =>
      cases hw
      exact Memory.getWord_set_same _ _ v h.wf
    | succ k =>
      rw [← h.words k w hw, stackWord, show r.sp.toNat - 2 + 2 * (k + 1) = r.sp.toNat + 2 * k by omega, Memory.getWord,
        Memory.getWord, hother (by omega), hother (by omega)]
  case mem =>
    rw [hsp] at ha
    have hle := h.sp
    exact (hother (by omega)).trans (h.mem a (by omega))

/-! ## The entry -/

/-- PSW after an entry: with its level replaced, where the entry sets one (R401). -/
def entryPsw (level : Option (BitVec 4)) (s : State) : Word :=
  match level with
  | some l => withIlvl s.cfg.psw s.psw l
  | none => s.psw

/-- CSP on the stack, with segmentation enabled (R401). -/
def segmentWords (s : State) : List Word := if s.sgtdis then [] else [s.csp]

/-- The push of CSP inside a run of pushes, by the setting of SGTDIS. -/
theorem pushSegment_stacks {ws : List Word} (h : Stacks ws s r)
    (hroom : StackRoom (if r.sgtdis then n else n + 1) r) :
    ∃ y, pushSegment r.checkOverflow = .ok y.checkOverflow ∧ StackRoom n y ∧ Stacks (segmentWords r ++ ws) s y ∧
      y = { r with csp := if r.sgtdis then r.csp else 0, sp := y.sp, mem := y.mem, changed := y.changed } := by
  unfold pushSegment segmentWords
  rw [checkOverflow_sgtdis, checkOverflow_csp]
  split
  · rename_i hnear
    rw [if_pos hnear] at hroom
    exact ⟨r, rfl, hroom, h, rfl⟩
  · rename_i hfar
    rw [if_neg hfar] at hroom
    exact ⟨{ r.stacked r.csp with csp := 0 },
      (Res.bind_ok ..).2 ⟨_, hroom.push_checked r.csp, congrArg Except.ok (checkOverflow_setCsp _ 0)⟩,
      hroom.stacked r.csp, { h.cons hroom r.csp with }, rfl⟩

/-- The frame of an entry, from the lowest WORD up. -/
def frameWords (ret : Word) (s : State) : List Word := ret :: (segmentWords s ++ [s.psw])

/-- An entry is a run of pushes: the frame, one check, CSP cleared with segmentation enabled, PSW, the note and IP. -/
theorem enterTrap_stacks (hwf : s.mem.wf = true) (hroom : StackRoom (if s.sgtdis then 2 else 3) s) (t : BitVec 7)
    (ret : Word) (level : Option (BitVec 4)) :
    ∃ r, enterTrap t ret level s = .ok ((r.checkOverflow.noteFrame s.sgtdis).jumpTo (4 * t.setWidth 16)) ∧
      Stacks (frameWords ret s) s r ∧
      r = { s with
        csp := if s.sgtdis then s.csp else 0, sp := r.sp, psw := entryPsw level s, mem := r.mem,
        changed := r.changed } := by
  let b : State := { s with psw := entryPsw level s }
  have hlevel : enterTrap t ret level s =
      (push s.psw b >>= fun u => pushSegment u >>= fun v => push ret v >>= fun w =>
        .ok ((w.noteFrame u.sgtdis).jumpTo (4 * t.setWidth 16))) := by
    cases level <;> rfl
  have hroomb : StackRoom ((if s.sgtdis then 1 else 2) + 1) b := by
    rw [show (if s.sgtdis then 1 else 2) + 1 = if s.sgtdis then 2 else 3 by split <;> rfl]
    exact hroom
  have hpsw : Stacks [s.psw] s (b.stacked s.psw) := (Stacks.nil hwf (entryPsw level s)).cons hroomb s.psw
  obtain ⟨y, hsegment, hroomy, hcsp, hy⟩ := pushSegment_stacks hpsw (hroomb.stacked s.psw)
  refine ⟨y.stacked ret, ?_, hcsp.cons hroomy ret, ?_⟩
  · rw [hlevel]
    refine (Res.bind_ok ..).2 ⟨_, hroomb.push_stacked s.psw, (Res.bind_ok ..).2 ⟨_, hsegment, (Res.bind_ok ..).2
      ⟨_, hroomy.push_checked ret, ?_⟩⟩⟩
    rw [checkOverflow_sgtdis]
    rfl
  · rw [hy]
    rfl

/-- The frame lies where an entry has left SP. -/
theorem Stacks.frame {ret : Word} (h : Stacks (frameWords ret s) s r) :
    r.sp = s.sp - (if s.sgtdis then 4 else 6) ∧ stackWord 0 r = ret ∧
      r.mem.getWord (s.sp.toNat - 2) = s.psw ∧ (s.sgtdis = false → r.mem.getWord (s.sp.toNat - 4) = s.csp) := by
  obtain ⟨hsp, -, hwords, -⟩ := h
  unfold frameWords segmentWords at hsp hwords
  cases hs : s.sgtdis with
  | true =>
    simp only [hs, if_true, List.nil_append, List.length_cons, List.length_nil] at hsp hwords ⊢
    refine ⟨by bv_omega, hwords 0 _ rfl, ?_, nofun⟩
    rw [show s.sp.toNat - 2 = r.sp.toNat + 2 * 1 by omega]
    exact hwords 1 _ rfl
  | false =>
    simp only [hs, Bool.false_eq_true, if_false, List.cons_append, List.nil_append, List.length_cons,
      List.length_nil] at hsp hwords ⊢
    refine ⟨by bv_omega, hwords 0 _ rfl, ?_, fun _ => ?_⟩
    · rw [show s.sp.toNat - 2 = r.sp.toNat + 2 * 2 by omega]
      exact hwords 2 _ rfl
    · rw [show s.sp.toNat - 4 = r.sp.toNat + 2 * 1 by omega]
      exact hwords 1 _ rfl

/-- An entry with room on the stack has entered (R401). -/
theorem enterTrap_entered (hwf : s.mem.wf = true) (hroom : StackRoom (if s.sgtdis then 2 else 3) s) (t : BitVec 7)
    (ret : Word) (level : Option (BitVec 4)) :
    ∃ u, enterTrap t ret level s = .ok u ∧ Entered t ret (entryPsw level s) s u := by
  obtain ⟨r, hr, hframe, hrest⟩ := enterTrap_stacks hwf hroom t ret level
  obtain ⟨sp, m, c, rfl⟩ : ∃ sp m c, r = { s with
      csp := if s.sgtdis then s.csp else 0, sp := sp, psw := entryPsw level s, mem := m, changed := c } :=
    ⟨_, _, _, hrest⟩
  obtain ⟨hsp, hip, hpsw, hcsp⟩ := hframe.frame
  refine ⟨_, hr, ?_⟩
  rw [checkOverflow_fields]
  exact {
    ip := rfl
    csp := rfl
    sp := hsp
    newPsw := rfl
    savedPsw := hpsw
    savedCsp := hcsp
    savedIp := hip
    mem := hframe.mem
    overflow := rfl
    tfr := rfl
    frames := rfl
    rest := rfl }

end Sys2Proof.Machine

namespace Sys2Proof.Proofs

open Sys2Proof.Machine

/-- Settles O24: TRAP is the shared entry, PSW kept. -/
theorem trapResult : Obligations.TrapResult := by
  intro s t hwf hroom
  obtain ⟨u, hu, hentered⟩ := enterTrap_entered hwf hroom t (s.nextIp 2) none
  exact ⟨u, congrArg (finish s) hu, hentered⟩

end Sys2Proof.Proofs
end

section
/-! SUPPORT. The return from a trap or an interrupt, the stack in RAM (60_exceptions.md R409, R410;
44_call_jump_return.md R286). -/

namespace Sys2Proof.Machine

variable {s : State} {n : Nat}

/-! ## A run of pops -/

/-- The check after a pop, field by field (R409). -/
theorem checkUnderflow_fields (s : State) : s.checkUnderflow = { s with
    tfr :=
      if s.stkun < s.sp ∧ s.cfg.trapEntry = .modelled then s.tfr ||| s.cfg.trapTable.stackUnderflow.flag else s.tfr,
    pending := { s.pending with stackUnderflow := s.pending.stackUnderflow || decide (s.stkun < s.sp) } } := by
  unfold State.checkUnderflow State.requestStackUnderflow State.noteTrap
  by_cases hlimit : s.stkun < s.sp
  · cases s.cfg.trapEntry <;> simp [hlimit]
  · simp [hlimit]

/-- The check leaves SYSCON. -/
@[simp] theorem checkUnderflow_sgtdis (s : State) : s.checkUnderflow.sgtdis = s.sgtdis := by
  rw [checkUnderflow_fields]
  rfl

/-- The parameters too. -/
@[simp] theorem checkUnderflow_cfg (s : State) : s.checkUnderflow.cfg = s.cfg := by rw [checkUnderflow_fields]

/-- IP written before the check or after it. -/
theorem checkUnderflow_jumpTo (s : State) (ip : Word) : s.checkUnderflow.jumpTo ip = (s.jumpTo ip).checkUnderflow := by
  simp only [checkUnderflow_fields, State.jumpTo]

/-- CSP likewise. -/
theorem checkUnderflow_setCsp (s : State) (csp : Word) :
    { s.checkUnderflow with csp := csp } = ({ s with csp := csp } : State).checkUnderflow := by
  simp only [checkUnderflow_fields]

/-- SP moved over the WORD on top of the stack, the limit not yet checked. -/
def State.raised (s : State) : State := { s with sp := s.sp + 2 }

/-- With a WORD to pop SP does not wrap. -/
theorem StackHolds.raised_sp (h : StackHolds (n + 1) s) : s.raised.sp.toNat = s.sp.toNat + 2 := by
  obtain ⟨-, hroom, -⟩ := h
  show (s.sp + 2).toNat = s.sp.toNat + 2
  bv_omega

/-- After a pop one WORD less is left. -/
theorem StackHolds.raised (h : StackHolds (n + 1) s) : StackHolds n s.raised := by
  have hsp := h.raised_sp
  obtain ⟨heven, hroom, hram⟩ := h
  refine ⟨even_add_two heven, by omega, fun k hk => ?_⟩
  rw [hsp, Nat.add_assoc, Nat.add_comm 2 k]
  exact hram (k + 2) (by omega)

/-- The WORDs left have moved one place down. -/
theorem StackHolds.stackWord_raised (h : StackHolds (n + 1) s) (k : Nat) :
    stackWord k s.raised = stackWord (k + 1) s := by
  rw [stackWord, h.raised_sp, stackWord, Nat.mul_succ, Nat.add_assoc, Nat.add_comm 2]
  rfl

/-- A pop with a WORD to pop: the WORD on top, SP raised, and the check. -/
theorem StackHolds.pop_raised (h : StackHolds (n + 1) s) : pop s = .ok (stackWord 0 s, s.raised.checkUnderflow) := by
  rw [pop_popped h.popStop, popped_ram h.classify_top]
  rfl

/-- One pop more in a run: the check before it is subsumed by the one after it. -/
theorem StackHolds.pop_checked (h : StackHolds (n + 1) s) :
    pop s.checkUnderflow = .ok (stackWord 0 s, s.raised.checkUnderflow) := by
  have hsp := h.raised_sp
  have hlimit : s.stkun < s.sp → s.stkun < s.sp + 2 := by
    rw [BitVec.lt_def, BitVec.lt_def]
    intro hs
    exact hs.trans_le ((Nat.le_add_right _ 2).trans hsp.ge)
  have hcheck : s.checkUnderflow.raised.checkUnderflow = s.raised.checkUnderflow := by
    simp only [checkUnderflow_fields, State.raised]
    generalize s.sp + 2 = raised at hlimit ⊢
    by_cases hs : s.stkun < s.sp
    · by_cases htrap : s.cfg.trapEntry = .modelled <;> simp [hs, hlimit hs, htrap, BitVec.or_assoc]
    · simp [hs]
  have hholds : StackHolds (n + 1) s.checkUnderflow := by
    rw [checkUnderflow_fields]
    exact h
  rw [hholds.pop_raised, hcheck, stackWord, checkUnderflow_sp, checkUnderflow_mem]
  rfl

/-! ## The return -/

/-- CSP after a return, with segmentation enabled the segment bits of the WORD above IP (R410). -/
def returnCsp (s : State) : Word := if s.sgtdis then s.csp else maskSeg s.cfg.device (stackWord 1 s)

/-- The WORD a return pops into PSW. -/
def returnPsw (s : State) : Word := stackWord (if s.sgtdis then 1 else 2) s

/-- The state a return leaves before PSW is written. -/
def State.unwound (s : State) : State :=
  ({ s.dropFrame with
    ip := stackWord 0 s, csp := returnCsp s, sp := s.sp + (if s.sgtdis then 4 else 6) } : State).checkUnderflow

/-- The pop of CSP inside a run of pops, by the setting of SGTDIS. -/
theorem popSegment_checked (hholds : StackHolds (if s.sgtdis then n else n + 1) s) :
    ∃ y, popSegment s.checkUnderflow = .ok y.checkUnderflow ∧ StackHolds n y ∧
      (∀ k, stackWord k y = stackWord (if s.sgtdis then k else k + 1) s) ∧
      y = { s with
        csp := if s.sgtdis then s.csp else maskSeg s.cfg.device (stackWord 0 s),
        sp := if s.sgtdis then s.sp else s.sp + 2 } := by
  unfold popSegment
  rw [checkUnderflow_sgtdis]
  split
  · rename_i hnear
    rw [if_pos hnear] at hholds
    exact ⟨s, rfl, hholds, fun _ => rfl, rfl⟩
  · rename_i hfar
    rw [if_neg hfar] at hholds
    refine ⟨{ s.raised with csp := maskSeg s.cfg.device (stackWord 0 s) },
      (Res.bind_ok ..).2 ⟨_, hholds.pop_checked, congrArg Except.ok ?_⟩, hholds.raised, hholds.stackWord_raised, rfl⟩
    rw [checkUnderflow_setCsp, checkUnderflow_cfg]
    rfl

/-- A return is a run of pops, the last one into PSW (R410). -/
theorem returnFromTrap_unwound (hframe : frameStop s = none) (hholds : StackHolds (if s.sgtdis then 2 else 3) s) :
    returnFromTrap s = storeCore .psw (returnPsw s) s.unwound := by
  let d : State := s.dropFrame.raised.jumpTo (stackWord 0 s)
  have hfirst : StackHolds ((if s.sgtdis then 1 else 2) + 1) s.dropFrame := by
    rw [show (if s.sgtdis then 1 else 2) + 1 = if s.sgtdis then 2 else 3 by split <;> rfl]
    exact hholds
  have hword (k : Nat) : stackWord k d = stackWord (k + 1) s := hfirst.stackWord_raised k
  obtain ⟨y, hsegment, hlast, hwords, hy⟩ := popSegment_checked (s := d) hfirst.raised
  have hpsw : stackWord 0 y = returnPsw s := by
    rw [hwords, hword, returnPsw]
    show stackWord ((if s.sgtdis then 0 else 1) + 1) s = _
    split <;> rfl
  have hunwound : y.raised.checkUnderflow = s.unwound := by
    have hsp : (if s.sgtdis then s.sp + 2 else s.sp + 2 + 2) + 2 = s.sp + (if s.sgtdis then 4 else 6) := by
      split <;> bv_omega
    rw [hy, State.unwound, returnCsp, ← hword 0, ← hsp]
    rfl
  have hrun : returnFromTrap s =
      (pop s.dropFrame >>= fun x => popSegment (x.2.jumpTo x.1) >>= fun b => pop b >>= fun z =>
        storeCore .psw z.1 z.2) := by
    rw [returnFromTrap, hframe]
  have hip : pop s.dropFrame = .ok (stackWord 0 s, s.dropFrame.raised.checkUnderflow) := hfirst.pop_raised
  rw [hrun, hip, ← hpsw, ← hunwound]
  simp only [bind, Except.bind]
  rw [checkUnderflow_jumpTo, hsegment]
  simp only [hlast.pop_checked]

/-- What the last pop of a return makes of PSW is a value that PSW takes (R33). -/
theorem returnFromTrap_done (hframe : frameStop s = none) (hholds : StackHolds (if s.sgtdis then 2 else 3) s)
    (hmulip : (returnPsw s).getLsbD s.cfg.psw.mulip.toNat = false) :
    returnFromTrap s = .ok { s.unwound with psw := returnPsw s &&& ~~~s.cfg.psw.reserved } := by
  have hcfg : s.unwound.cfg = s.cfg := checkUnderflow_cfg _
  have hcore : coreRefusal .psw (returnPsw s) s.unwound = none :=
    coreRefusal_none nofun nofun fun _ => by rw [hcfg, hmulip]
  rw [returnFromTrap_unwound hframe hholds]
  refine (storeCore_ok ..).2 ⟨hcore, ?_⟩
  rw [← hcfg]
  rfl

/-- A popped MULIP of 1 is refused (46_mul_div.md R337). -/
theorem returnFromTrap_mulip (hframe : frameStop s = none) (hholds : StackHolds (if s.sgtdis then 2 else 3) s)
    (hmulip : (returnPsw s).getLsbD s.cfg.psw.mulip.toNat = true) :
    returnFromTrap s = .error (.refuse .mulipWrite) := by
  have hcfg : s.unwound.cfg = s.cfg := checkUnderflow_cfg _
  have hcore : coreRefusal .psw (returnPsw s) s.unwound = some .mulipWrite :=
    coreRefusal_psw (by rw [hcfg, hmulip])
  rw [returnFromTrap_unwound hframe hholds, storeCore, hcore]

/-- A return to the frame of an entry that met the other value of SGTDIS is refused (R410). -/
theorem returnFromTrap_mismatch {b : Bool} (hframe : s.frames.find? (fun f => decide (f.1 = s.sp)) = some (s.sp, b))
    (hb : b ≠ s.sgtdis) : returnFromTrap s = .error (.refuse .segmentationChanged) := by
  have hstop : frameStop s = some .segmentationChanged := by
    simp only [frameStop, hframe, if_neg hb]
  rw [returnFromTrap, hstop]

/-- One to any other place is not. -/
theorem frameStop_none (h : ∀ f ∈ s.frames, f.1 = s.sp → f.2 = s.sgtdis) : frameStop s = none := by
  unfold frameStop
  split
  · rename_i f hf
    have hsp : f.1 = s.sp := by simpa using List.find?_some hf
    rw [if_pos (h f (List.mem_of_find?_eq_some hf) hsp)]
  · rfl

/-- What a return leaves but for PSW. -/
theorem unwound_fields (s : State) : s.unwound.ip = stackWord 0 s ∧ s.unwound.csp = returnCsp s ∧
    s.unwound.sp = s.sp + (if s.sgtdis then 4 else 6) ∧ s.unwound.mem = s.mem := by
  rw [State.unwound, checkUnderflow_fields]
  exact ⟨rfl, rfl, rfl, rfl⟩

end Sys2Proof.Machine

namespace Sys2Proof.Proofs

open Sys2Proof.Machine

/-- Settles O25: a return is a run of pops with one check, then the write of PSW. -/
theorem retiResult : Obligations.RetiResult := by
  refine fun s => ⟨fun b hfind hb => ?mismatch, fun hframes => ?pops⟩
  case mismatch => exact congrArg (finish s) (returnFromTrap_mismatch hfind hb)
  case pops =>
    have hframe := frameStop_none hframes
    have hdone := returnFromTrap_done hframe
    have hmulip := returnFromTrap_mulip hframe
    have hunwound : s.unwound = _ := checkUnderflow_fields _
    rw [hunwound] at hdone
    refine ⟨fun hs hholds => ?far, fun hs hholds => ?near⟩
    case far =>
      simp only [returnPsw, returnCsp, hs, Bool.false_eq_true, if_false] at hdone hmulip
      exact ⟨fun h => congrArg (finish s) (hmulip hholds h),
        fun h => ⟨_, congrArg (finish s) (hdone hholds h), rfl, rfl⟩⟩
    case near =>
      simp only [returnPsw, returnCsp, hs, if_true] at hdone hmulip
      exact ⟨fun h => congrArg (finish s) (hmulip hholds h),
        fun h => ⟨_, congrArg (finish s) (hdone hholds h), rfl, rfl⟩⟩

end Sys2Proof.Proofs
end

section
/-! SUPPORT. A return right after an entry undoes it (60_exceptions.md R401, R410). -/

namespace Sys2Proof.Machine

variable {s u : State} {t : BitVec 7} {ret psw : Word}

/-- An entry keeps the parameters. -/
theorem Entered.cfg (h : Entered t ret psw s u) : u.cfg = s.cfg := by rw [h.rest]

/-- And SGTDIS. -/
theorem Entered.sgtdis (h : Entered t ret psw s u) : u.sgtdis = s.sgtdis := by
  rw [h.rest]
  rfl

/-- The frame is as long as the entry's pushes. -/
theorem Entered.sp_toNat (h : Entered t ret psw s u) (hroom : StackRoom (if s.sgtdis then 2 else 3) s) :
    u.sp.toNat + 2 * (if s.sgtdis then 2 else 3) = s.sp.toNat := by
  obtain ⟨-, hlow, -⟩ := hroom
  rw [h.sp]
  revert hlow
  split
  · intro hlow
    bv_omega
  · intro hlow
    bv_omega

/-- The frame can be popped. -/
theorem Entered.stackHolds (h : Entered t ret psw s u) (hroom : StackRoom (if s.sgtdis then 2 else 3) s) :
    StackHolds (if u.sgtdis then 2 else 3) u := by
  have hsp := h.sp_toNat hroom
  have hlt := s.sp.isLt
  obtain ⟨heven, hlow, hram⟩ := hroom
  rw [h.sgtdis, StackHolds, h.cfg]
  generalize (if s.sgtdis then 2 else 3) = words at hsp hlow hram ⊢
  refine ⟨?even, by omega, fun k hk => ?ram⟩
  case even =>
    simp only [BitVec.getLsbD, Nat.testBit_zero, decide_eq_false_iff_not] at heven ⊢
    omega
  case ram =>
    rw [show u.sp.toNat + k = s.sp.toNat - 2 * words + k by omega]
    exact hram k hk

/-- SGTDIS has not changed since the entry. -/
theorem Entered.frameStop (h : Entered t ret psw s u) : frameStop u = none := by
  refine frameStop_none fun f hf hsp => ?_
  rw [h.frames] at hf
  rcases List.mem_cons.1 hf with rfl | hother
  · exact h.sgtdis.symm
  · have hne : f.1 ≠ u.sp := by simpa using (List.mem_filter.1 hother).2
    exact absurd hsp hne

/-- The return address is on top of the stack. -/
theorem Entered.stackWord_zero (h : Entered t ret psw s u) : stackWord 0 u = ret := h.savedIp

/-- A return pops PSW as it was before the entry. -/
theorem Entered.returnPsw (h : Entered t ret psw s u) (hroom : StackRoom (if s.sgtdis then 2 else 3) s) :
    returnPsw u = s.psw := by
  have hsp := h.sp_toNat hroom
  rw [Machine.returnPsw, h.sgtdis, ← h.savedPsw, stackWord]
  split at hsp
  · rw [if_pos ‹_›, show u.sp.toNat + 2 * 1 = s.sp.toNat - 2 by omega]
  · rw [if_neg ‹_›, show u.sp.toNat + 2 * 2 = s.sp.toNat - 2 by omega]

/-- And CSP, which held a segment number of the device. -/
theorem Entered.returnCsp (h : Entered t ret psw s u) (hroom : StackRoom (if s.sgtdis then 2 else 3) s)
    (hcsp : maskSeg s.cfg.device s.csp = s.csp) : returnCsp u = s.csp := by
  have hsp := h.sp_toNat hroom
  rw [Machine.returnCsp, h.sgtdis, h.cfg, h.csp]
  split at hsp
  · rw [if_pos ‹_›, if_pos ‹_›]
  · rename_i hfar
    rw [if_neg hfar, stackWord, show u.sp.toNat + 2 * 1 = s.sp.toNat - 4 by omega,
      h.savedCsp (Bool.eq_false_of_not_eq_true hfar), hcsp]

/-- A WORD with no bit of a mask is the same without the mask. -/
theorem and_not_eq_self {k : Nat} {w m : BitVec k} (h : w &&& m = 0) : w &&& ~~~m = w := by
  have hsplit : (w &&& ~~~m) ||| (w &&& m) = w := by
    rw [← BitVec.and_or_distrib_left]
    simp
  rw [h] at hsplit
  simpa using hsplit

end Sys2Proof.Machine

namespace Sys2Proof.Proofs

open Sys2Proof.Machine

/-- Settles O26: the frame that TRAP lays is the one RETI pops, and the values in it are such as CSP and PSW take. -/
theorem trapThenReturn : Obligations.TrapThenReturn := by
  intro s u v t hinv hroom htrap hreti
  obtain ⟨hwf, -, -, -, -, -, -, -, -, -, -, -, hreserved, hmulip, hcsp, -⟩ := hinv
  obtain ⟨u', hu', hentered⟩ := trapResult s t hwf hroom
  obtain rfl : u' = u := Host.Outcome.next.inj (hu'.symm.trans htrap)
  have hpsw := hentered.returnPsw hroom
  have hdone := returnFromTrap_done hentered.frameStop (hentered.stackHolds hroom)
    (by rw [hpsw, hentered.cfg, hmulip])
  obtain rfl : _ = v := Host.Outcome.next.inj ((congrArg (finish u') hdone).symm.trans hreti)
  obtain ⟨hip, hcsp', hsp, hmem⟩ := unwound_fields u'
  refine ⟨?ip, ?csp, ?psw, ?sp, fun a ha => ?mem⟩
  case ip => exact hip.trans hentered.stackWord_zero
  case csp => exact hcsp'.trans (hentered.returnCsp hroom hcsp)
  case psw =>
    show returnPsw u' &&& ~~~u'.cfg.psw.reserved = s.psw
    rw [hpsw, hentered.cfg, and_not_eq_self hreserved]
  case sp =>
    show u'.unwound.sp = s.sp
    rw [hsp, hentered.sgtdis, hentered.sp, BitVec.sub_add_cancel]
  case mem =>
    show u'.unwound.mem.get a = s.mem.get a
    rw [hmem]
    exact hentered.mem a (.inr ha)

end Sys2Proof.Proofs
end

section
/-! SUPPORT. What comes before the examination of events: resets, power-down and the idle state, and the watchdog's move
(00_scope.md R13 item 1). -/

namespace Sys2Proof.Machine

variable {s : State}

/-! ## Resets and the run state -/

/-- An external reset comes before everything (70_reset_and_hazards.md R450). -/
theorem step_externalReset (h : s.pending.reset = true) : step s = .next (s.resetBy .external) :=
  if_pos h

/-- Powered down the machine stays as it is (45_system.md R315). -/
theorem step_powerDown (h : s.pending.reset = false) (hrun : s.runState = .powerDown) : step s = .next s := by
  simp [step, h, hrun]

/-- Without an external reset a CPU that is not powered down goes on to the watchdog. -/
theorem step_powered (h : s.pending.reset = false) (hrun : s.runState ≠ .powerDown) : step s = stepPowered s := by
  simp [step, h, hrun]

/-- A watchdog reset comes before the idle state and every event (60_exceptions.md R405 item 1). -/
theorem stepPowered_watchdog (h : watchdogResets s = true) : stepPowered s = .next (s.resetBy .watchdog) :=
  if_pos h

/-- A running CPU that is not reset examines events. -/
theorem stepPowered_running (h : watchdogResets s = false) (hrun : s.runState = .running) :
    stepPowered s = runOrTake s := by
  simp [stepPowered, h, hrun]

/-- An idle CPU that nothing wakes only moves the watchdog (45_system.md R313). -/
theorem stepPowered_idle (h : watchdogResets s = false) (hrun : s.runState = .idle) (hwakes : wakes s = false) :
    stepPowered s = .next s.tick := by
  simp [stepPowered, h, hrun, hwakes]

/-- An idle CPU that a request wakes steps as a running one. -/
theorem stepPowered_woken (h : watchdogResets s = false) (hrun : s.runState = .idle) (hwakes : wakes s = true) :
    stepPowered s = stepPowered { s with runState := .running } := by
  rw [stepPowered_running (s := { s with runState := .running }) h rfl]
  simp [stepPowered, h, hrun, hwakes]

/-! ## What ends the idle state -/

/-- A class A request is found where one of the three is pending. -/
theorem firstClassA_isSome_iff (p : Pending) :
    (firstClassA p).isSome = true ↔ p.nmi = true ∨ p.stackOverflow = true ∨ p.stackUnderflow = true := by
  unfold firstClassA
  cases p.nmi <;> cases p.stackOverflow <;> cases p.stackUnderflow <;> decide

/-- What wakes an idle CPU: a class A, an interrupt or a PEC request (R313). Log entry 39. -/
theorem wakes_iff (s : State) :
    wakes s = true ↔ s.pending.nmi = true ∨ s.pending.stackOverflow = true ∨ s.pending.stackUnderflow = true ∨
      s.pending.irqs ≠ [] ∨ s.pending.pec ≠ [] := by
  simp [wakes, firstClassA_isSome_iff, or_assoc]

/-! ## The watchdog's move -/

/-- Without a rate, or disabled, the watchdog stands still. -/
theorem tick_still (h : s.cfg.wdtRate = none ∨ s.wdtEnabled = false) : s.tick = s := by
  rcases h with h | h
  · simp [State.tick, h]
  · unfold State.tick
    cases s.cfg.wdtRate <;> simp [h]

/-- Enabled and with a rate it counts, and a wrap requests the reset (60_exceptions.md R423). -/
theorem tick_counts {rate : Nat} (hrate : s.cfg.wdtRate = some rate) (h : s.wdtEnabled = true) :
    s.tick = { s with
      wdt := s.wdt + BitVec.ofNat 16 rate
      pending := { s.pending with
        wdtOverflow := s.pending.wdtOverflow || decide (65536 ≤ s.wdt.toNat + rate) } } := by
  simp [State.tick, hrate, h]

end Sys2Proof.Machine

namespace Sys2Proof.Proofs

open Sys2Proof.Machine

/-- Settles O12: the branches of the step that come before the idle state. -/
theorem resetTaken : Obligations.ResetTaken := by
  refine ⟨fun s => ⟨step_externalReset, step_powerDown⟩, fun s hreset hrun hoverflow henabled => ?_⟩
  have hwatchdog : watchdogResets s = true := by simp [watchdogResets, hoverflow, henabled]
  rw [step_powered hreset hrun, stepPowered_watchdog hwatchdog]

/-- Settles O13: an idle step by whether a request wakes the CPU, and the watchdog's move by whether it counts. -/
theorem idleState : Obligations.IdleState := by
  refine ⟨fun s hreset hidle hwatchdog => ?idle, fun s => ⟨tick_still, fun rate hrate henabled => ?counts⟩⟩
  case idle =>
    have hstep : step s = stepPowered s := step_powered hreset (by simp [hidle])
    refine ⟨fun hnmi hover hunder hirqs hpec => ?asleep, fun hrequest => ?woken⟩
    case asleep =>
      have hwakes : wakes s = false := by
        rw [Bool.eq_false_iff, ne_eq, wakes_iff]
        simp [hnmi, hover, hunder, hirqs, hpec]
      rw [hstep, stepPowered_idle hwatchdog hidle hwakes]
    case woken =>
      rw [hstep, stepPowered_woken hwatchdog hidle ((wakes_iff s).2 hrequest)]
      exact (step_powered (s := { s with runState := .running }) hreset (by simp)).symm
  case counts =>
    rw [tick_counts hrate henabled]
    exact ⟨by simp [BitVec.toNat_add], by simp, rfl⟩

end Sys2Proof.Proofs
end

section
/-! SUPPORT. The two instructions that wait, inside and outside a sequence (45_system.md R313, R315). -/

namespace Sys2Proof.Machine

variable {s : State}

/-- Inside a sequence IDLE is refused (42_atomic_ext.md R227 b). -/
theorem enterIdle_inSequence (h : s.seq.count ≠ 0) : enterIdle s = .error (.refuse .waitInSequence) :=
  if_pos h

/-- Inside a sequence PWRDN is refused, whatever NMI# is (R227 b). -/
theorem powerDown_inSequence (h : s.seq.count ≠ 0) : powerDown s = .error (.refuse .waitInSequence) :=
  if_pos h

/-- Outside a sequence PWRDN advances, and with NMI# low powers the chip down. -/
theorem powerDown_outsideSequence (h : s.seq.count = 0) :
    powerDown s =
      .ok (({ s with runState := if s.nmiPin then s.runState else .powerDown } : State).advance 4) := by
  rw [powerDown, if_neg (not_not_intro h)]
  by_cases hpin : s.nmiPin = true
  · rw [if_pos hpin, if_pos hpin]
  · rw [if_neg hpin, if_neg hpin]

end Sys2Proof.Machine

namespace Sys2Proof.Proofs

open Sys2Proof.Machine

/-- Settles O53: five instructions always answer; IDLE and PWRDN do so outside a sequence. -/
theorem systemResult : Obligations.SystemResult := by
  refine fun s => ⟨rfl, rfl, rfl, rfl, rfl, fun hcount => ⟨?idle, ?pwrdn⟩, fun hcount => ⟨?idleRefused, ?pwrdnRefused⟩⟩
  case idle => exact congrArg (finish s) (enterIdle_ok.2 ⟨hcount, rfl⟩)
  case pwrdn => exact congrArg (finish s) (powerDown_outsideSequence hcount)
  case idleRefused => exact congrArg (finish s) (enterIdle_inSequence hcount)
  case pwrdnRefused => exact congrArg (finish s) (powerDown_inSequence hcount)

end Sys2Proof.Proofs
end

section
/-! SUPPORT. The quotients and the remainders of the four divisions, and when there is none (46_mul_div.md R331 to R334,
R338). -/

namespace Sys2Proof.Machine

/-! ## The signed division -/

/-- A division that rounds toward zero leaves a remainder below the divisor. -/
theorem natAbs_tmod_lt (a : Int) {d : Int} (hd : d ≠ 0) : (a.tmod d).natAbs < d.natAbs := by
  rw [Int.natAbs_tmod]
  exact Nat.mod_lt _ (Int.natAbs_pos.2 hd)

/-- A division that rounds toward zero leaves a remainder with the dividend's sign. -/
theorem tmod_mul_self_nonneg (a d : Int) : 0 ≤ a.tmod d * a := by
  obtain ha | ha := le_total 0 a
  · exact mul_nonneg (Int.tmod_nonneg d ha) ha
  · have hneg : 0 ≤ (-a).tmod d := Int.tmod_nonneg d (neg_nonneg.2 ha)
    rw [Int.neg_tmod, neg_nonneg] at hneg
    exact mul_nonneg_of_nonpos_of_nonpos hneg ha

/-- A signed division has no result for a zero divisor, and none where the quotient does not fit. -/
theorem signedQuotient_eq_none_iff {a d : Int} :
    signedQuotient a d = none ↔ d = 0 ∨ a.tdiv d < -32768 ∨ 32767 < a.tdiv d := by
  unfold signedQuotient
  split_ifs with hzero hfits
  · simp [hzero]
  · simp only [hzero, false_or, false_iff]
    omega
  · simp only [hzero, false_or, true_iff]
    omega

/-- The words of a signed division's result are the quotient and the remainder themselves: both fit, the remainder
because a divisor of 16 bits exceeds it. -/
theorem toInt_of_signedQuotient {a : Int} {d q r : Word} (h : signedQuotient a d.toInt = some (q, r)) :
    d.toInt ≠ 0 ∧ q.toInt = a.tdiv d.toInt ∧ r.toInt = a.tmod d.toInt := by
  unfold signedQuotient at h
  split_ifs at h with hzero hfits
  obtain ⟨rfl, rfl⟩ : _ = q ∧ _ = r := by simpa using h
  have hrem := natAbs_tmod_lt a hzero
  have hlow : -32768 ≤ d.toInt := d.le_toInt
  have hhigh : d.toInt < 32768 := d.toInt_lt
  rw [mul_comm, ← Int.tmod_def]
  exact ⟨hzero, BitVec.toInt_ofInt_eq_self (by decide) (by omega) (by omega),
    BitVec.toInt_ofInt_eq_self (by decide) (by omega) (by omega)⟩

/-- The defining equation of a signed division's result. -/
theorem signedQuotient_some {a : Int} {d q r : Word} (h : signedQuotient a d.toInt = some (q, r)) :
    a = q.toInt * d.toInt + r.toInt ∧ r.toInt.natAbs < d.toInt.natAbs ∧ 0 ≤ r.toInt * a := by
  obtain ⟨hzero, hq, hr⟩ := toInt_of_signedQuotient h
  rw [hq, hr]
  exact ⟨(Int.tdiv_mul_add_tmod a d.toInt).symm, natAbs_tmod_lt a hzero, tmod_mul_self_nonneg a d.toInt⟩

/-- The quotient of two WORDs misses 16 signed bits exactly in -32768 / -1: its magnitude is at most the dividend's. -/
theorem tdiv_word_outside_iff (a d : Word) :
    (a.toInt.tdiv d.toInt < -32768 ∨ 32767 < a.toInt.tdiv d.toInt) ↔ a = 0x8000 ∧ d = 0xFFFF := by
  constructor
  case mp =>
    intro houtside
    have hmagnitude := Int.natAbs_tdiv_le_natAbs a.toInt d.toInt
    have hlow : -32768 ≤ a.toInt := a.le_toInt
    have hhigh : a.toInt < 32768 := a.toInt_lt
    have ha : a.toInt = -32768 := by omega
    have hquotient : a.toInt.tdiv d.toInt = 32768 := by omega
    have hzero : d.toInt ≠ 0 := by
      intro h
      rw [h, Int.tdiv_zero] at hquotient
      omega
    have hequation := Int.tdiv_mul_add_tmod a.toInt d.toInt
    have hrem := natAbs_tmod_lt a.toInt hzero
    have hsign := tmod_mul_self_nonneg a.toInt d.toInt
    have hd : d.toInt = -1 := by
      rw [hquotient, ha] at hequation
      rw [ha] at hsign hrem
      omega
    exact ⟨BitVec.toInt_inj.1 ha, BitVec.toInt_inj.1 hd⟩
  case mpr =>
    rintro ⟨rfl, rfl⟩
    decide

/-! ## The unsigned division -/

/-- An unsigned division has no result for a zero divisor, and none where the quotient does not fit. -/
theorem unsignedQuotient_eq_none_iff {a d : Nat} : unsignedQuotient a d = none ↔ d = 0 ∨ 65536 ≤ a / d := by
  unfold unsignedQuotient
  split_ifs with hzero hfits
  · simp [hzero]
  · simp only [hzero, false_or, false_iff]
    omega
  · simp only [hzero, false_or, true_iff]
    omega

/-- The defining equation of an unsigned division's result; the remainder fits because the divisor exceeds it. -/
theorem unsignedQuotient_some {a : Nat} {d q r : Word} (h : unsignedQuotient a d.toNat = some (q, r)) :
    a = q.toNat * d.toNat + r.toNat ∧ r.toNat < d.toNat := by
  unfold unsignedQuotient at h
  split_ifs at h with hzero hfits
  obtain ⟨rfl, rfl⟩ : _ = q ∧ _ = r := by simpa using h
  have hrem : a % d.toNat < d.toNat := Nat.mod_lt a (Nat.pos_of_ne_zero hzero)
  rw [BitVec.toNat_ofNat, BitVec.toNat_ofNat, Nat.mod_eq_of_lt (by omega), Nat.mod_eq_of_lt (hrem.trans d.isLt)]
  exact ⟨(Nat.div_add_mod' a d.toNat).symm, hrem⟩

/-- MD as a number. -/
theorem longDividend_toNat (mdh mdl : Word) : (mdh ++ mdl).toNat = mdh.toNat * 65536 + mdl.toNat := by
  rw [BitVec.toNat_append, ← Nat.shiftLeft_add_eq_or_of_lt mdl.isLt, Nat.shiftLeft_eq]

/-- The quotient of MD misses 16 unsigned bits exactly where the divisor does not exceed MDH. -/
theorem longDividend_div_outside_iff (mdh mdl : Word) {d : Nat} (hd : d ≠ 0) :
    65536 ≤ (mdh ++ mdl).toNat / d ↔ d ≤ mdh.toNat := by
  rw [Nat.le_div_iff_mul_le (Nat.pos_of_ne_zero hd), longDividend_toNat]
  omega

/-! ## No result, division by division -/

variable (mdh mdl d : Word)

theorem quotSigned16_eq_none_iff :
    quotSigned16 mdh mdl d = none ↔ d = 0 ∨ (mdl = 0x8000 ∧ d = 0xFFFF) := by
  rw [quotSigned16, signedQuotient_eq_none_iff, tdiv_word_outside_iff, ← BitVec.toInt_inj (y := 0)]
  rfl

theorem quotSigned32_eq_none_iff :
    quotSigned32 mdh mdl d = none ↔
      d = 0 ∨ (mdh ++ mdl).toInt.tdiv d.toInt < -32768 ∨ 32767 < (mdh ++ mdl).toInt.tdiv d.toInt := by
  rw [quotSigned32, signedQuotient_eq_none_iff, ← BitVec.toInt_inj (y := 0)]
  rfl

theorem quotUnsigned16_eq_none_iff : quotUnsigned16 mdh mdl d = none ↔ d = 0 := by
  have hle : mdl.toNat / d.toNat ≤ mdl.toNat := Nat.div_le_self ..
  have hfits : ¬ 65536 ≤ mdl.toNat / d.toNat := by omega
  rw [quotUnsigned16, unsignedQuotient_eq_none_iff, or_iff_left hfits, ← BitVec.toNat_inj (y := 0)]
  rfl

theorem quotUnsigned32_eq_none_iff : quotUnsigned32 mdh mdl d = none ↔ d = 0 ∨ d.toNat ≤ mdh.toNat := by
  rw [quotUnsigned32, unsignedQuotient_eq_none_iff, ← BitVec.toNat_inj (y := 0)]
  exact or_congr_right' (longDividend_div_outside_iff mdh mdl)

end Sys2Proof.Machine

namespace Sys2Proof.Proofs

open Sys2Proof.Machine

/-- Settles O56: the defining equations of the signed and of the unsigned division, and where each has no result. -/
theorem divideValues : Obligations.DivideValues :=
  ⟨fun _ _ _ _ _ => ⟨signedQuotient_some, signedQuotient_some, unsignedQuotient_some, unsignedQuotient_some⟩,
    fun mdh mdl d => ⟨quotSigned16_eq_none_iff mdh mdl d, quotSigned32_eq_none_iff mdh mdl d,
      quotUnsigned16_eq_none_iff mdh mdl d, quotUnsigned32_eq_none_iff mdh mdl d⟩⟩

end Sys2Proof.Proofs
end

section
/-! SUPPORT. What MOV, MOVB, MOVBS and MOVBSZ do when the register bank lies in RAM (47_data_move.md R350 to R354, R358,
R359; 20_memory.md R68, R73, R77). -/

namespace Sys2Proof.Machine

variable {s u : State} {pa : PhysAddr}

/-! ## Flags after a write -/

/-- A core register other than PSW, written, leaves PSW. -/
theorem storedCore_psw_other {r : CoreReg} (hr : r ≠ .psw) (v : Word) (s : State) : (storedCore r v s).psw = s.psw := by
  cases r with
  | psw => exact absurd rfl hr
  | dpp k => simp only [storedCore, State.setDpp]; split <;> rfl
  | _ => rfl

/-- A WORD written keeps the parameters. -/
@[simp] theorem storedW_cfg (pa : PhysAddr) (v : Word) (s : State) : (storedW pa v s).cfg = s.cfg := by
  unfold storedW
  split
  · exact storedCore_cfg _ v s
  · rfl
  · rfl

/-- A BYTE written keeps the parameters. -/
@[simp] theorem storedB_cfg (pa : PhysAddr) (v : Byte) (s : State) : (storedB pa v s).cfg = s.cfg := by
  unfold storedB
  split
  · exact storedCore_cfg _ _ s
  · split <;> rfl
  · rfl

/-- A WORD written elsewhere leaves PSW. -/
theorem storedW_psw_other (hpa : classify s.cfg pa ≠ .core .psw) (v : Word) : (storedW pa v s).psw = s.psw := by
  unfold storedW
  split
  · rename_i r hr
    exact storedCore_psw_other (fun h => hpa (h ▸ hr)) v s
  · rfl
  · rfl

/-- A BYTE written elsewhere leaves PSW. -/
theorem storedB_psw_other (hpa : classify s.cfg pa ≠ .core .psw) (v : Byte) : (storedB pa v s).psw = s.psw := by
  unfold storedB
  split
  · rename_i r hr
    exact storedCore_psw_other (fun h => hpa (h ▸ hr)) _ s
  · split <;> rfl
  · rfl

/-- The note for the hazard rule changes the two notes alone. -/
theorem noteWrite_state (s : State) (pa : PhysAddr) (before : State) :
    ∃ l p, s.noteWrite pa before = { s with lastWrites := l, pswBefore := p } := by
  unfold State.noteWrite
  split
  · exact ⟨_, _, rfl⟩
  · exact ⟨_, s.pswBefore, rfl⟩
  · exact ⟨s.lastWrites, s.pswBefore, rfl⟩

/-- A WORD destination written keeps the parameters, and the flags unless it is PSW. -/
theorem putW_keep (pa : PhysAddr) (v : Word) (s : State) :
    (putW pa v s).cfg = s.cfg ∧ (classify s.cfg pa ≠ .core .psw → (putW pa v s).flags = s.flags) := by
  obtain ⟨l, p, h⟩ := noteWrite_state (storedW pa v s) pa s
  rw [putW, h]
  refine ⟨storedW_cfg pa v s, fun hpa => ?_⟩
  simp only [State.flags, storedW_cfg, storedW_psw_other hpa]

/-- So does a BYTE destination. -/
theorem putB_keep (pa : PhysAddr) (v : Byte) (s : State) :
    (putB pa v s).cfg = s.cfg ∧ (classify s.cfg pa ≠ .core .psw → (putB pa v s).flags = s.flags) := by
  obtain ⟨l, p, h⟩ := noteWrite_state (storedB pa v s) pa s
  rw [putB, h]
  refine ⟨storedB_cfg pa v s, fun hpa => ?_⟩
  simp only [State.flags, storedB_cfg, storedB_psw_other hpa]

/-- Flags computed from those that stand last are computed from those before the write: where it changed them they are
lost (R359). -/
theorem flagsLast_of_kept (hcfg : u.cfg = s.cfg) (hflags : classify s.cfg pa ≠ .core .psw → u.flags = s.flags)
    (f : Flags → Flags) :
    u.flagsLast pa (f u.flags) = if classify s.cfg pa = .core .psw then u else u.setFlags (f s.flags) := by
  rw [flagsLast_eq, hcfg]
  split
  · rfl
  · rename_i hpa
    rw [hflags hpa]

/-! ## Pointers -/

/-- A post-increment changes memory alone. -/
theorem incremented_same (l : Loc) (w : Width) (s : State) : incremented l w s = { s with
    mem := (incremented l w s).mem, changed := (incremented l w s).changed } := by
  cases l <;> rfl

/-- So does a pre-decrement. -/
theorem decremented_same (l : Loc) (w : Width) (s : State) : decremented l w s = { s with
    mem := (decremented l w s).mem, changed := (decremented l w s).changed } := by
  cases l <;> rfl

/-- The post-increment of a destination whose write has left the bank in RAM. -/
theorem after_put {dst : Loc} (h : ∀ n, dst = .indInc n → BankInRam s) (w : Width) :
    dst.after w s = .ok (incremented dst w s) := by
  cases dst with
  | indInc n => exact after_bank (h n rfl) _ w
  | _ => rfl

/-- A WORD destination that takes the value, with its post-increment. -/
theorem putDstW_bank (hbank : BankInRam s) {dst : Loc} {v : Word} (hwrite : writeStop .word pa v s = none)
    (hput : ∀ n, dst = .indInc n → BankInRam (putW pa v s)) :
    putDstW dst pa v s = .ok (incremented dst .word (putW pa v s)) :=
  (putDstW_ok ..).2 ⟨_, writeDstW_put hwrite, .inr ⟨ownPointer_bank hbank dst pa, after_put hput .word⟩⟩

/-- A BYTE destination likewise. -/
theorem putDstB_bank (hbank : BankInRam s) {dst : Loc} {v : Byte}
    (hwrite : writeStop .byte pa (wordOfByte pa.toNat v) s = none)
    (hput : ∀ n, dst = .indInc n → BankInRam (putB pa v s)) :
    putDstB dst pa v s = .ok (incremented dst .byte (putB pa v s)) :=
  (putDstB_ok ..).2 ⟨_, writeDstB_put hwrite, .inr ⟨ownPointer_bank hbank dst pa, after_put hput .byte⟩⟩

/-! ## The moves -/

/-- A WORD source read and the pre-decrement keep the bank in RAM, the flags, and what a write depends on. -/
theorem sourceW_decremented_keep (hbank : BankInRam s) (src : Src 16) (dst : Loc) (w : Width) :
    let d := decremented dst w (sourceW src s).2
    BankInRam d ∧ d.cfg = s.cfg ∧ d.initDone = s.initDone ∧ d.flags = s.flags := by
  intro d
  have hd : d = _ := decremented_same dst w (sourceW src s).2
  rw [sourceW_same] at hd
  rw [hd]
  exact ⟨hbank, rfl, rfl, rfl⟩

/-- A BYTE source likewise. -/
theorem sourceB_decremented_keep (hbank : BankInRam s) (src : Src 8) (dst : Loc) (w : Width) :
    let d := decremented dst w (sourceB src s).2
    BankInRam d ∧ d.cfg = s.cfg ∧ d.initDone = s.initDone ∧ d.flags = s.flags := by
  intro d
  have hd : d = _ := decremented_same dst w (sourceB src s).2
  rw [sourceB_same] at hd
  rw [hd]
  exact ⟨hbank, rfl, rfl, rfl⟩

/-- A source operand read keeps the bank in RAM. -/
theorem sourceB_bank (hbank : BankInRam s) (src : Src 8) : BankInRam (sourceB src s).2 := by
  rw [sourceB_same]
  exact hbank

/-- The end of a move: its destination's post-increment, then the flags. -/
theorem flagsLast_incremented {p : State} (dst : Loc) (w : Width) (hcfg : p.cfg = s.cfg)
    (hflags : classify s.cfg pa ≠ .core .psw → p.flags = s.flags) (f : Flags → Flags) :
    let u := incremented dst w p
    u.flagsLast pa (f u.flags) = if classify s.cfg pa = .core .psw then u else u.setFlags (f s.flags) := by
  intro u
  have hu : u = _ := incremented_same dst w p
  refine flagsLast_of_kept ?_ ?_ f
  · rw [hu]
    exact hcfg
  · rw [hu]
    exact hflags

/-- MOV: the source with its post-increment, the pre-decrement, the destination, its post-increment, the flags (R351,
R359). -/
theorem moveW_bank (hbank : BankInRam s) {dst : Loc} {src : Src 16} (hsrc : sourceStop .word src s = none) :
    let pa := effAddr dst .word s
    let v := (sourceW src s).1
    let p := putW pa v (decremented dst .word (sourceW src s).2)
    let u := incremented dst .word p
    writeStop .word pa v s = none → (∀ n, dst = .indInc n → BankInRam p) → ∀ len,
      moveW dst src len s =
        .ok ((if classify s.cfg pa = .core .psw then u else u.setFlags (moveFlags v s.flags)).advance len) := by
  intro pa v p u hwrite hput len
  obtain ⟨hbankd, hcfg, hdone, hflags⟩ := sourceW_decremented_keep hbank src dst .word
  obtain ⟨hpcfg, hpflags⟩ := putW_keep pa v (decremented dst .word (sourceW src s).2)
  have hbefore := before_bank (sourceW_bank hbank src) dst .word
  have hdst : putDstW dst pa v _ = .ok u := putDstW_bank hbankd ((writeStop_congr _ _ _ hcfg hdone).trans hwrite) hput
  have hlast : u.flagsLast pa (moveFlags v u.flags) = _ := flagsLast_incremented dst .word (hpcfg.trans hcfg)
    (fun hpa => (hpflags (by rwa [hcfg])).trans hflags) (moveFlags v)
  rw [← hlast]
  simp only [moveW, addr_bank hbank, readSrcW_bank hbank src hsrc, hbefore, bind, Except.bind]
  rw [hdst]

/-- MOVB, in the order of MOV (R352). -/
theorem moveB_bank (hbank : BankInRam s) {dst : Loc} {src : Src 8} (hsrc : sourceStop .byte src s = none) :
    let pa := effAddr dst .byte s
    let v := (sourceB src s).1
    let p := putB pa v (decremented dst .byte (sourceB src s).2)
    let u := incremented dst .byte p
    writeStop .byte pa (wordOfByte pa.toNat v) s = none → (∀ n, dst = .indInc n → BankInRam p) → ∀ len,
      moveB dst src len s =
        .ok ((if classify s.cfg pa = .core .psw then u else u.setFlags (moveFlags v s.flags)).advance len) := by
  intro pa v p u hwrite hput len
  obtain ⟨hbankd, hcfg, hdone, hflags⟩ := sourceB_decremented_keep hbank src dst .byte
  obtain ⟨hpcfg, hpflags⟩ := putB_keep pa v (decremented dst .byte (sourceB src s).2)
  have hbefore := before_bank (sourceB_bank hbank src) dst .byte
  have hdst : putDstB dst pa v _ = .ok u := putDstB_bank hbankd ((writeStop_congr _ _ _ hcfg hdone).trans hwrite) hput
  have hlast : u.flagsLast pa (moveFlags v u.flags) = _ := flagsLast_incremented dst .byte (hpcfg.trans hcfg)
    (fun hpa => (hpflags (by rwa [hcfg])).trans hflags) (moveFlags v)
  rw [← hlast]
  simp only [moveB, addr_bank hbank, readSrcB_bank hbank src hsrc, hbefore, bind, Except.bind]
  rw [hdst]

/-- What MOVBS and MOVBSZ compute: N is the sign of a BYTE extended by it (R353, R354). -/
theorem Extension.compute_eq (x : Extension) (b : Byte) (old : Flags) :
    x.compute b old = (if x = .sign then b.signExtend 16 else b.setWidth 16,
      { old with e := false, z := decide (b = 0), n := decide (x = .sign) && b.msb }) := by
  cases x <;> rfl

/-- MOVBS and MOVBSZ write the WORD the BYTE read is extended to (R353, R354). -/
theorem moveExtend_bank (hbank : BankInRam s) {x : Extension} {dst : Loc} {src : Src 8}
    (hsrc : sourceStop .byte src s = none) {r : Word} {f : Flags} (hy : x.compute (sourceB src s).1 s.flags = (r, f)) :
    let pa := effAddr dst .word s
    let u := putW pa r (sourceB src s).2
    writeStop .word pa r s = none → ∀ len,
      moveExtend x dst src len s =
        .ok ((if classify s.cfg pa = .core .psw then u else u.setFlags f).advance len) := by
  intro pa u hwrite len
  have hsame := sourceB_same src s
  have hcfg : (sourceB src s).2.cfg = s.cfg := by rw [hsame]
  have hflags : (sourceB src s).2.flags = s.flags := by rw [hsame]; rfl
  have hdone : (sourceB src s).2.initDone = s.initDone := by rw [hsame]
  have hput : writeDstW pa r (sourceB src s).2 = .ok u :=
    writeDstW_put ((writeStop_congr _ _ _ hcfg hdone).trans hwrite)
  have hucfg : u.cfg = s.cfg := (putW_keep ..).1.trans hcfg
  rw [← hucfg, ← flagsLast_eq]
  simp only [moveExtend, addr_bank hbank, readSrcB_bank hbank src hsrc, hflags, hy, bind, Except.bind]
  rw [hput]

/-- The flags of a move (R350). -/
theorem moveFlags_value {w : Nat} (hw : w = 16 ∨ w = 8) (v : BitVec w) (f : Flags) :
    ((moveFlags v f).e = true ↔ v.toNat = 2 ^ (w - 1)) ∧ ((moveFlags v f).z = true ↔ v = 0) := by
  refine ⟨?_, decide_eq_true_iff⟩
  have hmin : (minNeg w).toNat = 2 ^ (w - 1) := by rcases hw with rfl | rfl <;> rfl
  rw [← hmin, BitVec.toNat_inj]
  exact decide_eq_true_iff

end Sys2Proof.Machine

namespace Sys2Proof.Proofs

open Sys2Proof.Machine

/-- Settles O41: the source, the pointers and a destination other than PSW leave the flags from which V and C are kept.
-/
theorem moveWordResult : Obligations.MoveWordResult := by
  refine ⟨fun i dst src s hform hbank hsrc hwrite hput => ?move, fun w v f hw => ?flags⟩
  case move =>
    rw [exec_moveWordForm hform, moveW_bank hbank hsrc hwrite hput, finish_ok]
  case flags =>
    obtain ⟨he, hz⟩ := moveFlags_value hw v f
    exact ⟨he, hz, rfl, rfl, rfl⟩

/-- Settles O42: MOVB in the order of MOV, and the extensions by what they compute. -/
theorem moveByteResult : Obligations.MoveByteResult := by
  refine ⟨fun i dst src s hform hbank hsrc hwrite hput => ?move, fun i x dst src s hform hbank hsrc => ?extend⟩
  case move =>
    rw [exec_moveByteForm hform, moveB_bank hbank hsrc hwrite hput, finish_ok]
  case extend =>
    intro pa b r f u hwrite
    rw [exec_extendForm hform, moveExtend_bank hbank hsrc (x.compute_eq b s.flags) hwrite, finish_ok]

end Sys2Proof.Proofs
end

section
/-! SUPPORT. What a move leaves unchanged: its reads, its pointers, its destination and the flags are all it writes
(47_data_move.md R351 to R354; 20_memory.md R73). -/

namespace Sys2Proof.Machine

variable {w : Width} {target : Option PhysAddr} {pointers : List (BitVec 4)} {s u : State} {pa : PhysAddr}

/-! ## Frames -/

/-- A frame without a target lies in every frame with as many pointers. -/
theorem OnlyWrites.widen {v : Width} {pointers' : List (BitVec 4)} (h : OnlyWrites v none pointers s u)
    (hp : pointers ⊆ pointers') : OnlyWrites w target pointers' s u := by
  have hnone {r : CoreReg} : names s.cfg none r → names s.cfg target r := fun ⟨_, hn, _⟩ => nomatch hn
  exact { h with
    cp := h.cp.imp_right hnone
    sp := h.sp.imp_right hnone
    stkov := h.stkov.imp_right hnone
    stkun := h.stkun.imp_right hnone
    psw := h.psw.imp_right hnone
    mdh := h.mdh.imp_right hnone
    mdl := h.mdl.imp_right hnone
    mdc := h.mdc.imp_right hnone
    dpp := fun k => (h.dpp k).imp_right hnone
    syscon := h.syscon.imp_right hnone
    tfr := h.tfr.imp_right hnone
    wdtcon := h.wdtcon.imp_right hnone
    mem := fun a _ hpointers => h.mem a nofun fun n hn => hpointers n (hp hn) }

/-- Where the target is not CP the bank has stayed. -/
theorem OnlyWrites.bank (h : OnlyWrites w target pointers s u) (hcp : ¬ names s.cfg target .cp) (hbank : BankInRam s) :
    BankInRam u ∧ ∀ n, gprAddr u n = gprAddr s n := by
  have hsame := h.cp.resolve_right hcp
  exact ⟨hbank.congr hsame h.cfg, fun n => by rw [gprAddr, hsame, gprAddr]⟩

/-- A pointer of the frame written. -/
theorem OnlyWrites.setGpr (h : OnlyWrites w target pointers s u) {n : BitVec 4} (haddr : gprAddr u n = gprAddr s n)
    (hn : n ∈ pointers) (v : Word) : OnlyWrites w target pointers s (u.setGpr n v) := by
  refine { h with mem := fun a ha hp => ?_ }
  have hpointer := hp n hn
  rw [← haddr] at hpointer
  exact (Memory.get_setWord_other _ _ (fun hlow => hpointer (.inl hlow)) fun hhigh => hpointer (.inr hhigh)).trans
    (h.mem a ha hp)

/-- The flags written last stay in every frame. -/
theorem OnlyWrites.flagsLast (h : OnlyWrites w target pointers s u) (pa : PhysAddr) (f : Flags) :
    OnlyWrites w target pointers s (u.flagsLast pa f) := by
  rw [flagsLast_eq]
  split
  · exact h
  · exact h.setFlags f

/-! ## Pointers -/

variable {dst : Loc} {raises : Prop}

/-- No target names no register. -/
theorem not_names_none (c : Config) (r : CoreReg) : ¬ names c none r := fun ⟨_, h, _⟩ => nomatch h

/-- A pre-decrement before anything else than reads and pointers is written. -/
theorem OnlyWrites.before_yields (h : OnlyWrites w none pointers s u) (hbank : BankInRam s)
    (hdst : dst.pointer ⊆ pointers) (v : Width) :
    Yields raises (OnlyWrites w none pointers s) (dst.before v u) := by
  obtain ⟨hbanku, haddr⟩ := h.bank (not_names_none _ _) hbank
  rw [before_bank hbanku]
  cases dst with
  | indDec n => exact h.setGpr (haddr n) (hdst (List.mem_singleton_self n)) _
  | _ => exact h

/-- A post-increment after a destination that is not CP. -/
theorem OnlyWrites.after_yields (h : OnlyWrites w target pointers s u) (hbank : BankInRam s)
    (hdst : dst.pointer ⊆ pointers) (hcp : ∀ n, dst = .indInc n → ¬ names s.cfg target .cp) (v : Width) :
    Yields raises (OnlyWrites w target pointers s) (dst.after v u) := by
  cases dst with
  | indInc n =>
    obtain ⟨hbanku, haddr⟩ := h.bank (hcp n rfl) hbank
    rw [after_bank hbanku]
    exact h.setGpr (haddr n) (hdst (List.mem_singleton_self n)) _
  | _ => exact h

/-- A destination that is not CP does not move the bank. -/
theorem not_names_cp (h : classify s.cfg pa ≠ .core .cp) : ¬ names s.cfg (some pa) .cp := by
  rintro ⟨_, heq, hc⟩
  cases heq
  exact h hc

/-- A WORD destination with its post-increment. -/
theorem OnlyWrites.putDstW_yields (h : OnlyWrites .word none pointers s u) (hbank : BankInRam s)
    (hdst : dst.pointer ⊆ pointers) (hcp : ∀ n, dst = .indInc n → classify s.cfg pa ≠ .core .cp) (v : Word) :
    Yields True (OnlyWrites .word (some pa) pointers s) (putDstW dst pa v u) := by
  obtain ⟨hbanku, -⟩ := h.bank (not_names_none _ _) hbank
  refine (writeDstW_yields (fun _ => trivial) (h.widen (List.Subset.refl _)) v).bind fun t ht => ?_
  rw [ownPointer_bank hbanku]
  exact ht.after_yields hbank hdst (fun n hn => not_names_cp (hcp n hn)) .word

/-- A BYTE destination likewise; no event comes of it. -/
theorem OnlyWrites.putDstB_yields (h : OnlyWrites .byte none pointers s u) (hbank : BankInRam s)
    (hdst : dst.pointer ⊆ pointers) (hcp : ∀ n, dst = .indInc n → classify s.cfg pa ≠ .core .cp) (v : Byte) :
    Yields False (OnlyWrites .byte (some pa) pointers s) (putDstB dst pa v u) := by
  obtain ⟨hbanku, -⟩ := h.bank (not_names_none _ _) hbank
  refine (writeDstB_yields (h.widen (List.Subset.refl _)) v).bind fun t ht => ?_
  rw [ownPointer_bank hbanku]
  exact ht.after_yields hbank hdst (fun n hn => not_names_cp (hcp n hn)) .byte

/-! ## The moves -/

/-- MOV (R351): the source or the destination can be misaligned (R359). -/
theorem moveW_yields (hbank : BankInRam s) (src : Src 16)
    (hcp : ∀ n, dst = .indInc n → classify s.cfg (effAddr dst .word s) ≠ .core .cp) (len : Nat) :
    Yields True (OnlyWrites .word (some (effAddr dst .word s)) (dst.pointer ++ src.pointer) s)
      (moveW dst src len s) := by
  simp only [moveW, addr_bank hbank]
  refine ((ReadsOnly.refl s).readSrcW_pointer .word none hbank src).bind ?_
  rintro ⟨v, u⟩ hu
  have hsource : OnlyWrites .word none (dst.pointer ++ src.pointer) s u := hu.widen (List.subset_append_right _ _)
  refine (hsource.before_yields hbank (List.subset_append_left _ _) .word).bind fun t ht => ?_
  refine (ht.putDstW_yields hbank (List.subset_append_left _ _) hcp v).bind fun t ht => ?_
  exact (ht.flagsLast _ _).advance len

/-- MOVB (R352) raises nothing. -/
theorem moveB_yields (hbank : BankInRam s) (src : Src 8)
    (hcp : ∀ n, dst = .indInc n → classify s.cfg (effAddr dst .byte s) ≠ .core .cp) (len : Nat) :
    Yields False (OnlyWrites .byte (some (effAddr dst .byte s)) (dst.pointer ++ src.pointer) s)
      (moveB dst src len s) := by
  simp only [moveB, addr_bank hbank]
  refine ((ReadsOnly.refl s).readSrcB_pointer .byte none hbank src).bind ?_
  rintro ⟨v, u⟩ hu
  have hsource : OnlyWrites .byte none (dst.pointer ++ src.pointer) s u := hu.widen (List.subset_append_right _ _)
  refine (hsource.before_yields hbank (List.subset_append_left _ _) .byte).bind fun t ht => ?_
  refine (ht.putDstB_yields hbank (List.subset_append_left _ _) hcp v).bind fun t ht => ?_
  exact (ht.flagsLast _ _).advance len

/-- An operation that raises an event in no more cases. -/
theorem Yields.mono {α : Type} {raises' : Prop} {P : α → Prop} {r : Res α} (h : Yields raises P r)
    (hr : raises → raises') : Yields raises' P r := by
  match r with
  | .ok a => exact h
  | .error (.trap _) => exact hr h
  | .error (.refuse _) => trivial

/-- The source of MOVBS and MOVBSZ moves no pointer. -/
theorem extendForm_pointer {i : Instr} {x : Extension} {src : Src 8} (h : extendForm i = some (x, dst, src)) :
    src.pointer = [] := by
  cases i <;> cases h <;> rfl

/-- MOVBS and MOVBSZ (R353, R354). -/
theorem moveExtend_yields (hbank : BankInRam s) (x : Extension) (dst : Loc) {src : Src 8} (hsrc : src.pointer = [])
    (len : Nat) :
    Yields True (OnlyWrites .word (some (effAddr dst .word s)) [] s) (moveExtend x dst src len s) := by
  simp only [moveExtend, addr_bank hbank]
  have hread := Yields.mono (raises' := True)
    ((ReadsOnly.refl s).readSrcB_pointer .word (some (effAddr dst .word s)) hbank src) False.elim
  rw [hsrc] at hread
  refine hread.bind ?_
  rintro ⟨b, u⟩ hu
  refine (writeDstW_yields (fun _ => trivial) hu _).bind fun t ht => ?_
  exact (ht.flagsLast _ _).advance len

end Sys2Proof.Machine

namespace Sys2Proof.Proofs

open Sys2Proof.Machine

/-- Settles O43: reads and pointers, then the destination, which is kept off CP while a pointer is still to move. -/
theorem moveFrame : Obligations.MoveFrame := by
  refine fun i s t hbank h => ⟨fun dst src hform hcp => ?word, fun dst src hform hcp => ?byte,
    fun x dst src hform => ?extend⟩
  case word =>
    rw [exec_moveWordForm hform] at h
    exact ((moveW_yields hbank src hcp _).next_or_trapped h).imp_left And.right
  case byte =>
    rw [exec_moveByteForm hform] at h
    exact .inr ((moveB_yields hbank src hcp _).next h)
  case extend =>
    rw [exec_extendForm hform] at h
    exact ((moveExtend_yields hbank x dst (extendForm_pointer hform) _).next_or_trapped h).imp_left And.right

end Sys2Proof.Proofs
end

section
/-! SUPPORT. PUSH, POP and SCXT wherever the stack lies (47_data_move.md R355 to R357; 20_memory.md R68, R75). -/

namespace Sys2Proof.Machine

variable {s : State} {r : Byte}

/-- PUSH: the operand as it stands before SP moves (R356). -/
theorem pushReg_pushed (hread : accessStop .word (regAddr r .word s) s.cfg = none) :
    let x := loadedW (regAddr r .word s) s
    let p := pushed x.1 x.2
    pushStop x.1 s = none → pushReg r s = .ok ((p.setFlags (moveFlags x.1 p.flags)).advance 2) := by
  intro x p hstop
  have hload : memReadW (regAddr r .word s) s = .ok x := (memReadW_ok ..).2 ⟨hread, rfl⟩
  have hpush : push x.1 x.2 = .ok p := push_pushed (((loadedW_readsOnly _ s).pushStop_eq x.1).trans hstop)
  simp only [pushReg, hload, hpush, bind, Except.bind]

/-- A pop does not move the address of a register, nor change what stops its write. -/
theorem popped_keep (r : Byte) (s : State) :
    regAddr r .word (popped s).2 = regAddr r .word s ∧ (popped s).2.cfg = s.cfg ∧
      (popped s).2.initDone = s.initDone := by
  rw [popped_same]
  exact ⟨rfl, rfl, rfl⟩

/-- POP: the operand takes the WORD after SP has moved (R355). -/
theorem popReg_popped (hstop : popStop s = none) :
    let pa := regAddr r .word s
    let v := (popped s).1
    let u := (popped s).2
    let t := putW pa v u
    writeStop .word pa v s = none →
      popReg r s =
        .ok ((if classify s.cfg pa = .core .psw then t else t.setFlags (moveFlags v u.flags)).advance 2) := by
  intro pa v u t hwrite
  obtain ⟨haddr, hcfg, hdone⟩ := popped_keep r s
  have hput : writeDstW pa v u = .ok t := writeDstW_put ((writeStop_congr _ _ _ hcfg hdone).trans hwrite)
  obtain ⟨htcfg, htflags⟩ := putW_keep pa v u
  rw [← hcfg, ← flagsLast_of_kept htcfg htflags (moveFlags v)]
  simp only [popReg, pop_popped hstop, haddr, bind, Except.bind]
  rw [hput]

/-- The source of SCXT is data or a `mem` operand, so it is read wherever the bank lies (R357). -/
theorem readSrcW_mem {src : Src 16} (hsrc : (∃ d, src = .imm d) ∨ ∃ a, src = .loc (.mem a))
    (hstop : sourceStop .word src s = none) : readSrcW src s = .ok (sourceW src s) := by
  rcases hsrc with ⟨d, rfl⟩ | ⟨a, rfl⟩
  · rfl
  · have hread := (memReadW_ok (dataAddr a s) s _).2 ⟨hstop, rfl⟩
    simp only [readSrcW, Loc.addr, hread, Loc.after, bind, Except.bind]
    rfl

/-- Two reads in a row do not change what stops a push. -/
theorem pushStop_operands (v : Word) (pa : PhysAddr) (src : Src 16) (s : State) :
    pushStop v (sourceW src (loadedW pa s).2).2 = pushStop v s := by
  rw [sourceW_same, loadedW_same]
  exact writeStop_congr _ _ _ rfl rfl

/-- SCXT: both operands read, the first pushed, and the register written with the second where it lies then (R357). -/
theorem switchContext_pushed {src : Src 16} (hsrc : (∃ d, src = .imm d) ∨ ∃ a, src = .loc (.mem a))
    (hread : accessStop .word (regAddr r .word s) s.cfg = none) (hstop : sourceStop .word src s = none) :
    let x := loadedW (regAddr r .word s) s
    let y := sourceW src x.2
    let p := pushed x.1 y.2
    pushStop x.1 s = none → writeStop .word (regAddr r .word p) y.1 p = none →
      switchContext r src s = .ok ((putW (regAddr r .word p) y.1 p).advance 4) := by
  intro x y p hpushStop hwrite
  have hload : memReadW (regAddr r .word s) s = .ok x := (memReadW_ok ..).2 ⟨hread, rfl⟩
  have hsource : readSrcW src x.2 = .ok y :=
    readSrcW_mem hsrc (((loadedW_readsOnly _ s).sourceStop_eq .word src).trans hstop)
  have hpush : push x.1 y.2 = .ok p := push_pushed ((pushStop_operands ..).trans hpushStop)
  simp only [switchContext, hload, hsource, hpush, writeDstW_put hwrite, bind, Except.bind]

end Sys2Proof.Machine

namespace Sys2Proof.Proofs

open Sys2Proof.Machine

/-- Settles O44: what is read or popped before the write decides its value, and the address is formed at the write. -/
theorem stackMoveResult : Obligations.StackMoveResult := by
  refine fun s r => ⟨fun hread hstop => ?push, fun hstop hwrite => ?pop, fun i src hi hread hstop hpush hwrite => ?scxt⟩
  case push => exact congrArg (finish s) (pushReg_pushed hread hstop)
  case pop => exact congrArg (finish s) (popReg_popped hstop hwrite)
  case scxt =>
    have hsrc : (∃ d, src = .imm d) ∨ ∃ a, src = .loc (.mem a) :=
      hi.imp (fun ⟨d, _, h⟩ => ⟨d, h⟩) fun ⟨a, _, h⟩ => ⟨a, h⟩
    have hexec : exec i s = finish s (switchContext r src s) := by
      rcases hi with ⟨d, rfl, rfl⟩ | ⟨a, rfl, rfl⟩ <;> rfl
    rw [hexec, switchContext_pushed hsrc hread hstop hpush hwrite, finish_ok]

end Sys2Proof.Proofs
end

section
/-! SUPPORT. What moves the watchdog's enable window: resets and four instructions (60_exceptions.md R422). -/

namespace Sys2Proof.Machine

/-- `wdt_enabled` and `wdt_open` (R422). -/
def State.window (s : State) : Bool × Bool := (s.wdtEnabled, s.wdtOpen)

/-- The window is its two booleans. -/
theorem window_eq_iff {s t : State} : t.window = s.window ↔ t.wdtEnabled = s.wdtEnabled ∧ t.wdtOpen = s.wdtOpen :=
  Prod.mk.injEq .. ▸ Iff.rfl

/-! ## The updates -/

/-- A core register written leaves the window. -/
theorem storedCore_window (r : CoreReg) (v : Word) (s : State) : (storedCore r v s).window = s.window := by
  cases r with
  | dpp k =>
    obtain ⟨_, _, _, _, hset⟩ := setDpp_state s k v
    rw [storedCore, hset]
    rfl
  | _ => rfl

/-- A class B request leaves the window. -/
theorem requestClassB_window (s : State) (e : ClassB) : (s.requestClassB e).window = s.window := by
  obtain ⟨v, p, d, h⟩ := requestClassB_state s e
  rw [h]
  rfl

/-- The data instructions, the transfers and the entries leave the window. -/
theorem window_stableFar (x : Bool × Bool) : StableFar fun s => s.window = x where
  ip _ _ h := h
  flags _ _ h := h
  draws _ _ h := h
  mdc _ _ h := h
  md _ _ _ h := h
  push _ h := h
  pop _ h := h
  core r v s _ h := (storedCore_window r v s).trans h
  store _ _ _ _ h := h
  drive _ _ _ _ h := h
  note _ _ _ h := h
  overflow s h := by
    obtain ⟨v, p, hs⟩ := requestStackOverflow_state s
    rwa [hs]
  underflow s h := by
    obtain ⟨v, p, hs⟩ := requestStackUnderflow_state s
    rwa [hs]
  csp _ _ h := h
  cspClear _ h := h
  level _ _ h := h
  frames _ _ h := h

/-! ## The instructions -/

/-- The instructions of R422's table. -/
def windowInstrs : List Instr := [.diswdt, .einit, .srst, .srvwdt]

/-- Every other instruction leaves the window. -/
theorem exec_window {i : Instr} {s t : State} (h : exec i s = .next t) (hi : i ∉ windowInstrs) :
    t.window = s.window := by
  have hfar := window_stableFar s.window
  have hne {j : Instr} (hj : j ∈ windowInstrs) : i ≠ j := fun heq => hi (heq ▸ hj)
  exact exec_keeps_for (i := i) (P := fun u => u.window = s.window)
    { hfar with
      raise := fun u e hu => (requestClassB_window u e).trans hu
      far := fun _ => hfar
      sequence := fun _ _ _ _ _ _ hu => hu
      diswdt := fun heq => absurd heq (hne (by simp [windowInstrs]))
      einit := fun heq => absurd heq (hne (by simp [windowInstrs]))
      idle := fun _ _ _ hu => hu
      powerDown := fun _ _ _ hu => hu
      srvwdt := fun heq => absurd heq (hne (by simp [windowInstrs]))
      srst := fun heq => absurd heq (hne (by simp [windowInstrs])) } h rfl

/-! ## The step -/

/-- A PEC transfer moves bytes of memory (R404). -/
theorem servePec_window (x : PecTransfer) (rest : List PecTransfer) (s : State) :
    (servePec x rest s).window = s.window :=
  List.foldlRecOn x.cells pecStore (motive := fun u => u.window = s.window) rfl fun u hu c _ => by
    unfold pecStore
    repeat' split
    all_goals exact hu

/-- An event that is taken leaves the window as the examination met it. -/
theorem examine_window {s t : State} (h : (examine s).2 = some (.next t)) : t.window = s.window := by
  have hfar := window_stableFar s.window
  have hraise : ∀ u e, u.window = s.window → (State.requestClassB u e).window = s.window :=
    fun u e hu => (requestClassB_window u e).trans hu
  have htaken := (examine_cases s).2 t h
  obtain ⟨d, hd⟩ := examine_state s
  rw [hd] at htaken
  rcases htaken with ⟨x, h⟩ | ⟨a, h⟩ | ⟨r, h⟩ | ⟨x, rest, rfl⟩
  · exact finish_keeps hraise h rfl fun _ hu => enterTrap_keeps hfar hu rfl
  · refine finish_keeps hraise h rfl fun _ hu => enterTrap_keeps hfar hu ?_
    cases a with
    | nmi =>
      obtain ⟨v, hv⟩ := noteTrap_state { s with draws := d } s.cfg.trapTable.nmi.flag
      simp only [ClassA.take, hv]
      rfl
    | stackOverflow | stackUnderflow => rfl
  · exact finish_keeps hraise h rfl fun _ hu => enterTrap_keeps hfar hu rfl
  · exact servePec_window x rest _

/-- The end of a step that ran no instruction leaves the window. -/
theorem endStep_window (s : State) : (endStep s).window = s.window := by
  obtain ⟨v, p, h⟩ := endStep_state s
  rw [h]
  rfl

/-- So does the end of an instruction's step. -/
theorem afterInstr_window (i : Instr) (s : State) : (afterInstr i s).window = s.window := by
  obtain ⟨q, v, b, p, h, -⟩ := afterInstr_state i s
  rw [h]
  rfl

/-- The fetch and what it leads to, for an instruction that leaves the window. -/
theorem runNext_window {s t : State} (h : runNext s = .next t) (hi : ∀ i ∈ windowInstrs, fetchInstr s ≠ .ok i) :
    t.window = s.window := by
  rcases runNext_next h with ⟨e, -, -, -, rfl⟩ | ⟨i, u, hfetch, -, hrun, rfl⟩
  · exact (endStep_window _).trans (requestClassB_window _ e)
  · obtain ⟨-, hexec, -⟩ := runInstr_next.1 hrun
    exact (afterInstr_window i u).trans (exec_window hexec fun hmem => hi i hmem hfetch :)

/-- The fetch asks neither for the run state nor for the draws. -/
theorem fetchInstr_congr (s : State) (r : RunState) (d : Nat) :
    fetchInstr { s with runState := r, draws := d } = fetchInstr s := rfl

/-- A step that neither resets nor runs one of the four instructions leaves the window. -/
theorem step_window {s t : State} (h : step s = .next t) (hreset : ∀ c, t ≠ s.resetBy c)
    (hi : ∀ i ∈ windowInstrs, fetchInstr s ≠ .ok i) : t.window = s.window := by
  rcases step_next h with ⟨c, rfl⟩ | ⟨-, rfl⟩ | ⟨-, rfl⟩ | h
  · exact absurd rfl (hreset c)
  · rfl
  · obtain ⟨v, p, htick⟩ := tick_state s
    rw [htick]
    rfl
  · rcases runOrTake_next h with ⟨u, htaken, -, rfl⟩ | ⟨-, hrun⟩
    · exact (endStep_window u).trans (examine_window htaken :)
    · obtain ⟨d, hd⟩ := examine_state { s with runState := .running }
      rw [hd] at hrun
      have hfetch : ∀ i ∈ windowInstrs, fetchInstr { s with runState := .running, draws := d } ≠ .ok i :=
        fun i hmem => fetchInstr_congr s .running d ▸ hi i hmem
      exact (runNext_window hrun hfetch :)

end Sys2Proof.Machine

namespace Sys2Proof.Proofs

open Sys2Proof.Machine

/-- Settles O14: the rows of the table one by one, and no other instruction or event touches the window. -/
theorem watchdogWindow : Obligations.WatchdogWindow := by
  refine ⟨fun s c => ⟨rfl, rfl⟩, fun i s t h => ?instruction,
    fun s t h hreset hi => window_eq_iff.1 (step_window h hreset hi)⟩
  case instruction =>
    by_cases hi : i ∈ windowInstrs
    · simp only [windowInstrs, List.mem_cons, List.not_mem_nil, or_false] at hi
      rcases hi with rfl | rfl | rfl | rfl
      case inl =>
        cases h
        cases hopen : s.wdtOpen <;> simp [disableWatchdog, hopen]
      all_goals
        cases h
        exact ⟨rfl, rfl⟩
    · obtain ⟨henabled, hopen⟩ := window_eq_iff.1 (exec_window h hi)
      simp only [windowInstrs, List.mem_cons, List.not_mem_nil, or_false, not_or] at hi
      obtain ⟨hdiswdt, heinit, hsrst, hsrvwdt⟩ := hi
      simp only [hdiswdt, heinit, hsrst, hsrvwdt, henabled, hopen, false_and, or_self, if_false, and_self]

end Sys2Proof.Proofs
end

section
/-! SUPPORT. The events of a running CPU and what each enters (60_exceptions.md R401 to R409). -/

namespace Sys2Proof.Machine

variable {s u : State}

/-! ## From the step to the examination -/

/-- A running CPU to which no reset is due examines events. -/
theorem step_examines (hreset : s.pending.reset = false) (hrun : s.runState = .running)
    (hwatchdog : watchdogResets s = false) : step s = runOrTake s :=
  (step_powered hreset (by simp [hrun])).trans (stepPowered_running hwatchdog hrun)

/-- A step that ends in the fault of an event. -/
theorem runOrTake_fault {f : Fault} (h : examine s = (s, some (.fault f))) : runOrTake s = .fault f := by
  simp only [runOrTake, h]
  rfl

/-- A step that takes nothing fetches. -/
theorem runOrTake_nothing (h : examine s = (s, none)) : runOrTake s = runNext s := by
  simp only [runOrTake, h]

/-- A step that takes an event which the guard of the bank lets through. -/
theorem runOrTake_taken (h : examine s = (s, some (.next u))) (hguard : guardEntry s (.next u) = .next u) :
    runOrTake s = .next (endStep u) := by
  simp only [runOrTake, h, hguard]
  rfl

/-! ## Entries -/

/-- What the examination changes of a state before it enters a trap: the sequence, TFR and the requests. -/
def EntryPrepared (s r : State) : Prop := ∃ q tfr p, r = { s with seq := q, tfr := tfr, pending := p }

/-- An event entered from room on the stack is the whole step: its frame does not lie on the bank, and CP stays. -/
theorem runOrTake_entered {r : State} {t : BitVec 7} {ret : Word} {level : BitVec 4} (hwf : s.mem.wf = true)
    (hroom : EntryRoom s) (hr : EntryPrepared s r)
    (hexamine : examine s = (s, some (finish s (enterTrap t ret (some level) r)))) :
    ∃ u, runOrTake s = .next (endStep u) ∧ Entered t ret (withIlvl s.cfg.psw s.psw level) r u := by
  obtain ⟨hstack, hfile⟩ := hroom
  obtain ⟨q, tfr, p, rfl⟩ := hr
  obtain ⟨u, hu, hentered⟩ := enterTrap_entered (s := { s with seq := q, tfr := tfr, pending := p }) hwf hstack t ret
    (some level)
  refine ⟨u, runOrTake_taken ?_ ?_, hentered⟩
  · rw [hexamine, hu, finish_ok]
  · have hcp : u.cp = s.cp := by rw [hentered.rest]
    have hsp : u.sp = s.sp - (if s.sgtdis then 4 else 6) := hentered.sp
    have hcount : (s.sp - u.sp).toNat / 2 = if s.sgtdis then 2 else 3 := by
      rw [hsp, sub_sub_cancel]
      split <;> rfl
    simp only [guardEntry, hcount, hfile, hcp, ne_eq, not_true_eq_false, and_false, if_false]

/-! ## Class B -/

/-- A pending class B request is taken before everything else (R405 item 2). -/
theorem examine_classB {x : ClassBRequest} (h : dueClassB s = some x) :
    examine s = (s, some (finish s (enterClassB x s))) := by
  simp only [examine, h]

/-! ## Class A -/

/-- With events entered no stack limit is a fault. -/
theorem limitFault_modelled (h : s.cfg.trapEntry = .modelled) : limitFault s = none := by
  simp only [limitFault, h]

/-- Outside a sequence, with neither a class B request nor a limit fault, items 3 and 4 of R405 come. -/
theorem examine_unlocked (hclassB : dueClassB s = none) (hlimit : limitFault s = none) (hseq : s.seq.count = 0) :
    examine s = examineUnlocked s := by
  simp only [examine, hclassB, hlimit, hseq, if_true]

/-- A class A request comes before interrupts, and is entered. -/
theorem examineUnlocked_classA {a : ClassA} (htrap : s.cfg.trapEntry = .modelled)
    (h : firstClassA s.pending = some a) : examineUnlocked s = (s, some (finish s (enterClassA a s))) := by
  simp only [examineUnlocked, h, htrap]

/-- With `HW_TRAP_ENTRY = fault` it is a fault (R409). -/
theorem examineUnlocked_classA_fault {a : ClassA} (htrap : s.cfg.trapEntry = .fault)
    (h : firstClassA s.pending = some a) : examineUnlocked s = (s, some (.fault a.fault)) := by
  simp only [examineUnlocked, h, htrap]

/-- A class A request taken leaves all but TFR and the requests. -/
theorem take_prepared (a : ClassA) (s : State) : EntryPrepared s (a.take s) := by
  cases a with
  | nmi =>
    obtain ⟨v, hv⟩ := noteTrap_state s s.cfg.trapTable.nmi.flag
    exact ⟨s.seq, v, { s.pending with nmi := false }, by simp only [ClassA.take, hv]⟩
  | stackOverflow | stackUnderflow => exact ⟨s.seq, s.tfr, _, rfl⟩

/-- The first pending class A request is entered at level 15 (R405 item 3, R407, R409). -/
theorem step_classA {a : ClassA} (hex : Examining s) (htrap : s.cfg.trapEntry = .modelled) (hseq : s.seq.count = 0)
    (hwf : s.mem.wf = true) (hroom : EntryRoom s) (hfirst : firstClassA s.pending = some a) :
    ∃ u, step s = .next (endStep u) ∧
      Entered (a.row s.cfg.trapTable).number s.ip (withIlvl s.cfg.psw s.psw 15) (a.take s) u := by
  obtain ⟨hreset, hrun, hwatchdog, hclassB, hlimit⟩ := hex
  rw [step_examines hreset hrun hwatchdog]
  refine runOrTake_entered hwf hroom (take_prepared a s) ?_
  rw [examine_unlocked hclassB hlimit hseq, examineUnlocked_classA htrap hfirst]
  rfl

/-! ## Faults -/

/-- With `HW_TRAP_ENTRY = fault` no class B request is entered. -/
theorem dueClassB_fault (h : s.cfg.trapEntry = .fault) : dueClassB s = none := by
  simp only [dueClassB, h]

/-- With `HW_TRAP_ENTRY = fault` a passed stack limit is a fault (R409). -/
theorem examine_limitFault (htrap : s.cfg.trapEntry = .fault) {f : Fault} (h : limitFault s = some f) :
    examine s = (s, some (.fault f)) := by
  simp only [examine, dueClassB_fault htrap, h]

/-- Which fault it is. -/
theorem limitFault_fault (h : s.cfg.trapEntry = .fault) : limitFault s =
    if s.pending.stackOverflow then some .stackOverflow
    else if s.pending.stackUnderflow then some .stackUnderflow else none := by
  simp only [limitFault, h]

/-! ## Interrupts -/

/-- There is a request of the highest level where there is a request. -/
theorem highestIrq_eq_none_iff {rs : List IrqRequest} : highestIrq rs = none ↔ rs = [] := by
  cases rs with
  | nil => exact ⟨fun _ => rfl, fun _ => rfl⟩
  | cons r rs =>
    simp only [highestIrq, reduceCtorEq, iff_false]
    split
    · simp
    · split <;> simp

/-- It is one of the requests, and no other has a higher level (R403). -/
theorem highestIrq_some {rs : List IrqRequest} {r : IrqRequest} (h : highestIrq rs = some r) :
    r ∈ rs ∧ ∀ q ∈ rs, q.level ≤ r.level := by
  induction rs generalizing r with
  | nil => cases h
  | cons x rs ih =>
    simp only [highestIrq] at h
    split at h
    · rename_i hnone
      cases h
      rw [highestIrq_eq_none_iff.1 hnone]
      exact ⟨List.mem_singleton_self _, fun q hq => List.mem_singleton.1 hq ▸ BitVec.le_refl _⟩
    · rename_i y hy
      obtain ⟨hmem, hmax⟩ := ih hy
      split at h
      · rename_i hlt
        cases h
        exact ⟨List.mem_cons_of_mem _ hmem, List.forall_mem_cons.2 ⟨BitVec.le_of_lt hlt, hmax⟩⟩
      · rename_i hge
        cases h
        exact ⟨List.mem_cons_self, List.forall_mem_cons.2
          ⟨BitVec.le_refl _, fun q hq => BitVec.le_trans (hmax q hq) (BitVec.not_lt.1 hge)⟩⟩

/-- Where no draw of R460's row PSW decides, a request meets PSW as it stands. -/
theorem pswForInterrupt_settled
    (h : s.cfg.hazards = .sequential ∨ .psw ∉ s.lastWrites ∨ s.pending.irqs = []) : pswForInterrupt s = (s.psw, s) := by
  refine if_neg ?_
  rintro ⟨hrefuse, hwritten, hirqs⟩
  rcases h with hseq | hnot | hnil
  · rw [hrefuse] at hseq
    cases hseq
  · exact hnot hwritten
  · exact hirqs hnil

/-- The requests a PSW value accepts (R403). -/
def acceptableIrqs (s : State) : List IrqRequest := s.pending.irqs.filter fun r => r.acceptable s.cfg.psw s.psw

/-- A request is accepted iff IEN = 1 and its level is above ILVL. -/
theorem mem_acceptableIrqs {r : IrqRequest} :
    r ∈ acceptableIrqs s ↔
      r ∈ s.pending.irqs ∧ ienOf s.cfg.psw s.psw = true ∧ ilvlOf s.cfg.psw s.psw < r.level := by
  simp [acceptableIrqs, IrqRequest.acceptable]

/-- An interrupt is taken: the highest of those accepted (R405 item 4). -/
theorem examineUnlocked_interrupt (hclassA : firstClassA s.pending = none) (hpsw : pswForInterrupt s = (s.psw, s))
    {r : IrqRequest} (hr : highestIrq (acceptableIrqs s) = some r) :
    examineUnlocked s = (s, some (finish s (enterInterrupt r s))) := by
  rw [acceptableIrqs] at hr
  simp only [examineUnlocked, hclassA, hpsw, hr]

/-- With none accepted a PEC request is served (R404). Log entry 28. -/
theorem examineUnlocked_pec (hclassA : firstClassA s.pending = none) (hpsw : pswForInterrupt s = (s.psw, s))
    (hnone : acceptableIrqs s = []) {x : PecTransfer} {rest : List PecTransfer} (hpec : s.pending.pec = x :: rest) :
    examineUnlocked s = (s, some (.next (servePec x rest s))) := by
  rw [acceptableIrqs] at hnone
  simp only [examineUnlocked, hclassA, hpsw, hnone, highestIrq, hpec]

/-- With no PEC request either nothing is taken. -/
theorem examineUnlocked_nothing (hclassA : firstClassA s.pending = none) (hpsw : pswForInterrupt s = (s.psw, s))
    (hnone : acceptableIrqs s = []) (hpec : s.pending.pec = []) : examineUnlocked s = (s, none) := by
  rw [acceptableIrqs] at hnone
  simp only [examineUnlocked, hclassA, hpsw, hnone, highestIrq, hpec]

/-- The trap number of an interrupt is none of the hardware traps' (R403). -/
theorem trapNo_toNat (r : IrqRequest) : r.trapNo.toNat = 0x10 + r.vector.val := by
  have hlt := r.vector.isLt
  rw [IrqRequest.trapNo, BitVec.toNat_ofNat]
  omega

end Sys2Proof.Machine

namespace Sys2Proof.Proofs

open Sys2Proof.Machine

/-- Settles O19: the request comes first in the examination, and its entry drops the sequence and the request. -/
theorem classBEntry : Obligations.ClassBEntry := by
  intro s x hreset hrun hwatchdog htrap hpending hwf hroom
  have hdue : dueClassB s = some x := by simp only [dueClassB, htrap, hpending]
  rw [step_examines hreset hrun hwatchdog]
  exact runOrTake_entered hwf hroom ⟨{}, s.tfr, _, rfl⟩ (examine_classB hdue)

/-- Settles O20: the three requests in their order, entered or faults. -/
theorem classAEvents : Obligations.ClassAEvents := by
  refine ⟨fun s hex htrap hseq hwf hroom => ?entered, ⟨rfl, rfl, rfl⟩, fun s hreset hrun hwatchdog htrap => ?fault⟩
  case entered =>
    have hstep {a : ClassA} := step_classA (a := a) hex htrap hseq hwf hroom
    refine ⟨fun hnmi => ?nmi, fun hnmi hover => hstep (a := .stackOverflow) ?overflow,
      fun hnmi hover hunder => hstep (a := .stackUnderflow) ?underflow⟩
    case nmi =>
      obtain ⟨u, hu, hentered⟩ := hstep (a := .nmi) (by simp [firstClassA, hnmi])
      simp only [ClassA.take, noteTrap_modelled htrap] at hentered
      exact ⟨u, hu, hentered⟩
    case overflow => simp [firstClassA, hnmi, hover]
    case underflow => simp [firstClassA, hnmi, hover, hunder]
  case fault =>
    rw [step_examines hreset hrun hwatchdog]
    have hlimit := limitFault_fault htrap
    refine ⟨fun hover => ?overflow, fun hover hunder => ?underflow, fun hover hunder hnmi hseq => ?nmi⟩
    case overflow => exact runOrTake_fault (examine_limitFault htrap (by simp [hlimit, hover]))
    case underflow => exact runOrTake_fault (examine_limitFault htrap (by simp [hlimit, hover, hunder]))
    case nmi =>
      refine runOrTake_fault (f := ClassA.fault .nmi) ?_
      rw [examine_unlocked (dueClassB_fault htrap) (by simp [hlimit, hover, hunder]) hseq]
      exact examineUnlocked_classA_fault htrap (by simp [firstClassA, hnmi])

/-- Settles O22: the request taken is the highest of those accepted; where there is none, nothing is taken. -/
theorem interruptEntry : Obligations.InterruptEntry := by
  intro s hex hseq hclassA hwf hsettled hroom l
  obtain ⟨hreset, hrun, hwatchdog, hclassB, hlimit⟩ := hex
  have hpsw := pswForInterrupt_settled (hsettled.imp_right .inl)
  have hexamine := examine_unlocked hclassB hlimit hseq
  rw [step_examines hreset hrun hwatchdog]
  refine ⟨fun haccepted => ?taken, fun hnone hpec => ?nothing⟩
  case taken =>
    obtain ⟨q, hq⟩ := haccepted
    have hsome : highestIrq (acceptableIrqs s) ≠ none := fun hnone =>
      List.not_mem_nil (highestIrq_eq_none_iff.1 hnone ▸ mem_acceptableIrqs.2 hq)
    obtain ⟨r, hr⟩ := Option.ne_none_iff_exists'.1 hsome
    obtain ⟨hmem, hmax⟩ := highestIrq_some hr
    obtain ⟨hpending, hien, hlevel⟩ := mem_acceptableIrqs.1 hmem
    refine ⟨r, hpending, hien, hlevel, ?_, fun q hq hql => hmax q (mem_acceptableIrqs.2 ⟨hq, hien, hql⟩), ?_⟩
    · rw [trapNo_toNat]
      exact Nat.le_add_right _ _
    · exact runOrTake_entered hwf hroom ⟨s.seq, s.tfr, _, rfl⟩
        (hexamine.trans (examineUnlocked_interrupt hclassA hpsw hr))
  case nothing =>
    have hempty : acceptableIrqs s = [] := List.eq_nil_iff_forall_not_mem.2 fun q hq => by
      obtain ⟨hpending, hien, hlevel⟩ := mem_acceptableIrqs.1 hq
      rcases hnone q hpending with hoff | hle
      · exact absurd (hien.symm.trans hoff) (by decide)
      · exact absurd hlevel (BitVec.not_lt.2 hle)
    exact runOrTake_nothing (hexamine.trans (examineUnlocked_nothing hclassA hpsw hempty hpec))

end Sys2Proof.Proofs
end

section
/-! SUPPORT. What a PEC transfer writes (60_exceptions.md R404). -/

namespace Sys2Proof.Machine

variable {s : State} {a : Nat}

/-! ## One byte -/

/-- The bytes a transfer can write: the platform's and those of RAM, the bank of a register file apart (R404). Log entry
51. -/
def PecTakes (c : Config) (a : Nat) : Prop :=
  a < 2 ^ 24 ∧ (classify c (BitVec.ofNat 24 a) = .platform ∨
    (classify c (BitVec.ofNat 24 a) = .ram ∧ inFile c (BitVec.ofNat 24 a) = false))

/-- Such a byte is written. -/
theorem pecStore_mem (h : PecTakes s.cfg a) (v : Byte) : (pecStore s (a, v)).mem = s.mem.set a v := by
  obtain ⟨hlt, hplatform | ⟨hram, hfile⟩⟩ := h
  · simp only [pecStore, if_pos hlt, hplatform, State.driveByte_mem]
  · simp only [pecStore, if_pos hlt, hram, hfile, Bool.false_eq_true, if_false, State.storeByte_mem]

/-- No other is. -/
theorem pecStore_skips (h : ¬ PecTakes s.cfg a) (v : Byte) : pecStore s (a, v) = s := by
  unfold pecStore
  split
  · rename_i hlt
    split
    · rename_i hram
      split
      · rfl
      · rename_i hfile
        exact absurd ⟨hlt, .inr ⟨hram, Bool.eq_false_of_not_eq_true hfile⟩⟩ h
    · rename_i hplatform
      exact absurd ⟨hlt, .inl hplatform⟩ h
    · rfl
  · rfl

/-- A byte moved changes memory alone. -/
theorem pecStore_same (s : State) (c : Host.Cell) :
    pecStore s c = { s with mem := (pecStore s c).mem, changed := (pecStore s c).changed } := by
  unfold pecStore
  repeat' split
  all_goals rfl

/-- It leaves every other byte. -/
theorem pecStore_get_other {c : Host.Cell} (h : a ≠ c.1 ∨ ¬ PecTakes s.cfg a) :
    (pecStore s c).mem.get a = s.mem.get a := by
  obtain ⟨b, v⟩ := c
  by_cases hb : PecTakes s.cfg b
  · have hne : a ≠ b := h.elim id fun hn heq => hn (heq ▸ hb)
    rw [pecStore_mem hb, Memory.get_set_other _ _ hne]
  · rw [pecStore_skips hb]

/-- And keeps memory canonical. -/
theorem pecStore_wf (h : s.mem.wf = true) (c : Host.Cell) : (pecStore s c).mem.wf = true := by
  obtain ⟨b, v⟩ := c
  by_cases hb : PecTakes s.cfg b
  · rw [pecStore_mem hb]
    exact Memory.set_wf _ _ _ h
  · rwa [pecStore_skips hb]

/-! ## A transfer -/

/-- A run of bytes changes memory alone. -/
theorem pecStores_same (cells : List Host.Cell) (s : State) : cells.foldl pecStore s =
    { s with mem := (cells.foldl pecStore s).mem, changed := (cells.foldl pecStore s).changed } := by
  induction cells generalizing s with
  | nil => rfl
  | cons c cells ih =>
    rw [List.foldl_cons, ih, pecStore_same s c]

/-- It keeps memory canonical. -/
theorem pecStores_wf (h : s.mem.wf = true) (cells : List Host.Cell) : (cells.foldl pecStore s).mem.wf = true :=
  List.foldlRecOn cells pecStore (motive := fun u => u.mem.wf = true) h fun _ hu c _ => pecStore_wf hu c

/-- A byte it does not list, or that no transfer writes, stays. -/
theorem pecStores_get_other {cells : List Host.Cell} (h : a ∉ cells.map Prod.fst ∨ ¬ PecTakes s.cfg a) :
    (cells.foldl pecStore s).mem.get a = s.mem.get a := by
  induction cells generalizing s with
  | nil => rfl
  | cons c cells ih =>
    have hcfg : (pecStore s c).cfg = s.cfg := by rw [pecStore_same]
    have hhead : a ≠ c.1 ∨ ¬ PecTakes s.cfg a := h.imp_left fun hn heq => hn (by simp [heq])
    have htail : a ∉ cells.map Prod.fst ∨ ¬ PecTakes (pecStore s c).cfg a := by
      rw [hcfg]
      exact h.imp_left fun hn hmem => hn (List.mem_cons_of_mem _ hmem)
    rw [List.foldl_cons, ih htail, pecStore_get_other hhead]

/-- A byte that a transfer writes has the last value it lists for it. -/
theorem pecStores_get_last (hwf : s.mem.wf = true) (ha : PecTakes s.cfg a) (before : List Host.Cell) (v : Byte)
    {after : List Host.Cell} (hlast : a ∉ after.map Prod.fst) :
    ((before ++ (a, v) :: after).foldl pecStore s).mem.get a = v := by
  have hcfg : (before.foldl pecStore s).cfg = s.cfg := by rw [pecStores_same]
  rw [List.foldl_append, List.foldl_cons, pecStores_get_other (.inl hlast), pecStore_mem (hcfg ▸ ha),
    Memory.get_set_same _ _ _ (pecStores_wf hwf before)]

/-! ## The step -/

/-- No address at all is no address of the bank: nothing is refused as long as CP has its reset value. -/
theorem fileStop_nil (h : s.cfg.gprModel = .abstractFile → s.cp = fileBase s.cfg) : fileStop [] s = none := by
  cases hmodel : s.cfg.gprModel with
  | memoryMapped => exact fileStop_memoryMapped hmodel []
  | abstractFile => exact (fileStop_none hmodel (h hmodel) []).2 nofun

/-- The guard of the bank lets an outcome through that moves neither SP nor CP. -/
theorem guardEntry_still {u : State} (h : s.cfg.gprModel = .abstractFile → s.cp = fileBase s.cfg) (hsp : u.sp = s.sp)
    (hcp : u.cp = s.cp) : guardEntry s (.next u) = .next u := by
  have hcount : (s.sp - u.sp).toNat / 2 = 0 := by
    rw [hsp, BitVec.sub_self]
    rfl
  have hstop : fileStop (belowSp 0 s) s = none := fileStop_nil h
  simp only [guardEntry, hcount, hstop, hcp, ne_eq, not_true_eq_false, and_false, if_false]

end Sys2Proof.Machine

namespace Sys2Proof.Proofs

open Sys2Proof.Machine

/-- Settles O23: with no trap and no interrupt due the transfer is the step, and it is a run of bytes. -/
theorem pecTransferEffect : Obligations.PecTransferEffect := by
  intro s x rest hex hseq hclassA hirqs hpec hwf hcp takes
  obtain ⟨hreset, hrun, hwatchdog, hclassB, hlimit⟩ := hex
  have hsame : servePec x rest s = { s with
      mem := (servePec x rest s).mem, changed := (servePec x rest s).changed,
      pending := { s.pending with pec := rest } } := by
    rw [servePec, pecStores_same]
  have hnone : acceptableIrqs s = [] := by simp [acceptableIrqs, hirqs]
  have hexamine := (examine_unlocked hclassB hlimit hseq).trans
    (examineUnlocked_pec hclassA (pswForInterrupt_settled (.inr (.inr hirqs))) hnone hpec)
  refine ⟨servePec x rest s, ?step, hsame, fun before after a v hcells hlast ha => ?last, fun a ha => ?other⟩
  case step =>
    rw [step_examines hreset hrun hwatchdog]
    exact runOrTake_taken hexamine (guardEntry_still hcp (by rw [hsame]) (by rw [hsame]))
  case last =>
    show (x.cells.foldl pecStore s).mem.get a = v
    rw [hcells]
    exact pecStores_get_last hwf ha before v hlast
  case other => exact pecStores_get_other ha

end Sys2Proof.Proofs
end

section
/-! SUPPORT. The hazard rule: when an instruction is refused for what the one before it has written, which instructions
use which register, and what is noted (70_reset_and_hazards.md R460). -/

namespace Sys2Proof.Machine

variable {i : Instr} {s t : State}

/-! ## The refusal -/

/-- With `sequential` there is no hazard. -/
theorem hazard_sequential (h : s.cfg.hazards = .sequential) (i : Instr) : hazard i s = none := by
  simp only [hazard, h]

/-- With `refuse` there is none where the instruction uses nothing of what was written. -/
theorem hazard_unused (h : ∀ r ∈ s.lastWrites, usesCore r i s = false) : hazard i s = none := by
  unfold hazard
  split
  · exact List.find?_eq_none.2 fun r hr => by simp [h r hr]
  · rfl

/-- And there is one where it does. -/
theorem hazard_used (hrefuse : s.cfg.hazards = .refuse) (h : ∃ r ∈ s.lastWrites, usesCore r i s = true) :
    ∃ r ∈ s.lastWrites, usesCore r i s = true ∧ hazard i s = some r := by
  have hfind : hazard i s = s.lastWrites.find? fun r => usesCore r i s := by simp only [hazard, hrefuse]
  obtain ⟨r, hr⟩ := Option.isSome_iff_exists.1 (List.find?_isSome.2 h)
  exact ⟨r, List.mem_of_find?_eq_some hr, (List.find?_some hr :), hfind.trans hr⟩

/-- An instruction with a hazard is refused. -/
theorem runNext_hazard {r : CoreReg} (hfetch : fetchInstr s = .ok i) (h : hazard i s = some r) :
    runNext s = .refused (.pipelineHazard r) := by
  simp only [runNext, hfetch, h]

/-! ## What an instruction uses -/

/-- The locations an instruction only writes are those of its operands that are not read. -/
theorem writeOnlyLocs_eq (i : Instr) :
    writeOnlyLocs i = ((operandsOf i).filter fun o => !o.reads).map Operand.loc := by
  cases i <;> rfl

/-- The locations an instruction names are those of its operands. -/
theorem mem_operandLocs {l : Loc} : l ∈ operandLocs i ↔ ∃ o ∈ operandsOf i, o.loc = l := by
  simp only [operandLocs, readLocs_eq, writeOnlyLocs_eq, List.map_map, List.mem_append, List.mem_map, List.mem_filter,
    Function.comp_apply, Bool.not_eq_true']
  constructor
  · rintro (⟨o, ⟨ho, -⟩, rfl⟩ | ⟨o, ⟨ho, -⟩, rfl⟩) <;> exact ⟨o, ho, rfl⟩
  · rintro ⟨o, ho, rfl⟩
    cases hr : o.reads with
    | true => exact .inl ⟨o, ⟨ho, hr⟩, rfl⟩
    | false => exact .inr ⟨o, ⟨ho, hr⟩, rfl⟩

/-- Some operand lies at a location of a kind. -/
theorem any_operand_iff (p : Loc → Bool) :
    ((operandsOf i).any fun o => p o.loc) = true ↔ ∃ l ∈ operandLocs i, p l = true := by
  simp only [List.any_eq_true, mem_operandLocs]
  constructor
  · rintro ⟨o, ho, hp⟩
    exact ⟨o.loc, ⟨o, ho, rfl⟩, hp⟩
  · rintro ⟨_, ⟨o, ho, rfl⟩, hp⟩
    exact ⟨o, ho, hp⟩

/-- The numbers 0xF0 to 0xFF name general registers (20_memory.md R70, R74). -/
theorem highNibble_iff (r : Byte) : r.extractLsb' 4 4 = 0xF#4 ↔ 0xF0 ≤ r.toNat := by
  revert r
  decide

/-- The locations that name a general register (R460, row CP). -/
theorem namesGpr_iff (l : Loc) :
    l.namesGpr = true ↔ (∃ n, l = .rw n) ∨ (∃ n, l = .rb n) ∨ (∃ r, (l = .reg r ∨ l = .bitoff r) ∧ 0xF0 ≤ r.toNat) ∨
      (∃ n, l = .ind n) ∨ (∃ n, l = .indInc n) ∨ (∃ n, l = .indDec n) ∨ (∃ n d, l = .indDisp n d) := by
  cases l <;> simp [Loc.namesGpr, highNibble_iff]

/-- The locations reached by `mem` or `[...]` addressing (R460, rows DPP and SYSCON). -/
theorem inDataSpace_iff (l : Loc) :
    l.inDataSpace = true ↔ (∃ a, l = .mem a) ∨ (∃ n, l = .ind n) ∨ (∃ n, l = .indInc n) ∨ (∃ n, l = .indDec n) ∨
      (∃ n d, l = .indDisp n d) := by
  cases l <;> simp [Loc.inDataSpace]

/-- The instructions that test a condition code (R270, R460). -/
theorem conditionOf_iff {cc : Cond} :
    conditionOf i = some cc ↔ ∃ n a rel,
      i = .calla cc a ∨ i = .jmpa cc a ∨ i = .calli cc n ∨ i = .jmpi cc n ∨ i = .jmpr cc rel := by
  constructor
  · intro h
    cases i <;> cases h <;> simp
  · rintro ⟨n, a, rel, rfl | rfl | rfl | rfl | rfl⟩ <;> rfl

/-- An instruction reads a flag by its carry or by a condition other than cc_UC. Log entry 46. -/
theorem readsFlag_iff :
    readsFlag i = true ↔ i.mnemonic ∈ [.addc, .addcb, .subc, .subcb] ∨ ∃ cc, cc ≠ .uc ∧ conditionOf i = some cc := by
  simp only [readsFlag, Bool.or_eq_true, decide_eq_true_eq]
  refine or_congr_right' fun _ => ?_
  cases conditionOf i with
  | none => simp
  | some cc => simp

/-- An operand is PSW, read. -/
theorem readsPsw_iff {o : Operand} :
    o.readsPsw s = true ↔
      o.reads = true ∧ ∃ pa u, o.loc.addr o.width s = .ok (pa, u) ∧ classify s.cfg pa = .core .psw := by
  simp only [Operand.readsPsw, Bool.and_eq_true]
  refine and_congr_right fun _ => ?_
  cases o.loc.addr o.width s with
  | error e => simp
  | ok x => simp [Prod.ext_iff]

/-- Some operand is PSW, read. -/
theorem any_readsPsw_iff :
    ((operandsOf i).any fun o => o.readsPsw s) = true ↔
      ∃ l w pa u, (l, w) ∈ readLocs i ∧ l.addr w s = .ok (pa, u) ∧ classify s.cfg pa = .core .psw := by
  simp only [List.any_eq_true, readsPsw_iff, readLocs_eq, List.mem_map, List.mem_filter]
  constructor
  · rintro ⟨o, ho, hr, pa, u, haddr, hc⟩
    exact ⟨o.loc, o.width, pa, u, ⟨o, ⟨ho, hr⟩, rfl⟩, haddr, hc⟩
  · rintro ⟨l, w, pa, u, ⟨o, ⟨ho, hr⟩, heq⟩, haddr, hc⟩
    cases heq
    exact ⟨o, ho, hr, pa, u, haddr, hc⟩

/-- Row CP of R460. -/
theorem usesCore_cp_iff : usesCore .cp i s = true ↔ ∃ l ∈ operandLocs i, l.namesGpr = true :=
  any_operand_iff Loc.namesGpr

/-- Row DPPk of R460. -/
theorem usesCore_dpp_iff (k : BitVec 2) :
    usesCore (.dpp k) i s = true ↔
      s.seq.page = none ∧ s.seq.seg = none ∧ ∃ l ∈ operandLocs i, l.inDataSpace = true := by
  simp only [usesCore, Bool.and_eq_true, Option.isNone_iff_eq_none, any_operand_iff Loc.inDataSpace, and_assoc]

/-- Row PSW of R460. -/
theorem usesCore_psw_iff :
    usesCore .psw i s = true ↔
      i.mnemonic ∈ [.addc, .addcb, .subc, .subcb, .trap] ∨ (∃ cc, cc ≠ .uc ∧ conditionOf i = some cc) ∨
      ∃ l w pa u, (l, w) ∈ readLocs i ∧ l.addr w s = .ok (pa, u) ∧ classify s.cfg pa = .core .psw := by
  simp only [usesCore, Bool.or_eq_true, decide_eq_true_eq, readsFlag_iff, any_readsPsw_iff, List.mem_cons,
    List.not_mem_nil, or_false, or_assoc, or_left_comm]

/-- Row SYSCON of R460. -/
theorem usesCore_syscon_iff :
    usesCore .syscon i s = true ↔
      i.mnemonic ∈ [.trap, .reti] ∨ ∃ l ∈ operandLocs i, l.inDataSpace = true := by
  simp only [usesCore, Bool.or_eq_true, decide_eq_true_eq, any_operand_iff Loc.inDataSpace]

/-! ## What is noted -/

/-- A core register written notes nothing by itself. -/
theorem storedCore_lastWrites (r : CoreReg) (v : Word) (s : State) : (storedCore r v s).lastWrites = s.lastWrites := by
  cases r with
  | dpp k =>
    obtain ⟨_, _, _, _, hset⟩ := setDpp_state s k v
    rw [storedCore, hset]
  | _ => rfl

/-- Nor does a WORD written. -/
theorem storedW_lastWrites (pa : PhysAddr) (v : Word) (s : State) : (storedW pa v s).lastWrites = s.lastWrites := by
  unfold storedW
  split
  · exact storedCore_lastWrites _ v s
  · rfl
  · rfl

/-- Nor a BYTE. -/
theorem storedB_lastWrites (pa : PhysAddr) (v : Byte) (s : State) : (storedB pa v s).lastWrites = s.lastWrites := by
  unfold storedB
  split
  · exact storedCore_lastWrites _ _ s
  · split <;> rfl
  · rfl

/-- The core registers noted after a destination at `pa` has been written from `s`. -/
def notedWrites (pa : PhysAddr) (s : State) : List CoreReg :=
  match classify s.cfg pa with
  | .core r => r :: s.lastWrites
  | _ => s.lastWrites

/-- The note of a destination: its core register, if it is one. Log entry 13. -/
theorem noteWrite_lastWrites {u : State} (h : u.lastWrites = s.lastWrites) (pa : PhysAddr) :
    (u.noteWrite pa s).lastWrites = notedWrites pa s := by
  unfold State.noteWrite notedWrites
  cases classify s.cfg pa with
  | core r => cases r <;> exact congrArg _ h
  | _ => exact h

/-- A WORD destination written is noted. -/
theorem writeDstW_lastWrites {pa : PhysAddr} {v : Word} (h : writeDstW pa v s = .ok t) :
    t.lastWrites = notedWrites pa s := by
  obtain ⟨-, rfl⟩ := (writeDstW_ok ..).1 h
  exact noteWrite_lastWrites (storedW_lastWrites pa v s) pa

/-- A BYTE destination too. -/
theorem writeDstB_lastWrites {pa : PhysAddr} {v : Byte} (h : writeDstB pa v s = .ok t) :
    t.lastWrites = notedWrites pa s := by
  obtain ⟨-, rfl⟩ := (writeDstB_ok ..).1 h
  exact noteWrite_lastWrites (storedB_lastWrites pa v s) pa

/-! ## What is not -/

/-- A read notes nothing. -/
theorem memReadW_lastWrites {pa : PhysAddr} {x : Word × State} (h : memReadW pa s = .ok x) :
    x.2.lastWrites = s.lastWrites := by
  obtain ⟨m, d, hx, -⟩ := memReadW_readsOnly h
  rw [hx]

/-- Nor does a write that is no destination's. -/
theorem memWriteW_lastWrites {pa : PhysAddr} {v : Word} (h : memWriteW pa v s = .ok t) :
    t.lastWrites = s.lastWrites := by
  obtain ⟨-, rfl⟩ := (memWriteW_ok ..).1 h
  exact storedW_lastWrites pa v s

/-- A push. -/
theorem push_lastWrites {v : Word} (h : push v s = .ok t) : t.lastWrites = s.lastWrites := by
  obtain ⟨-, rfl⟩ := push_ok.1 h
  rw [pushed, checkOverflow_eq]
  exact storedW_lastWrites _ v _

/-- A pop. -/
theorem pop_lastWrites {x : Word × State} (h : pop s = .ok x) : x.2.lastWrites = s.lastWrites := by
  simp only [pop, Res.bind_ok] at h
  obtain ⟨⟨v, u⟩, hread, h⟩ := h
  cases h
  show ({ u with sp := u.sp + 2 } : State).checkUnderflow.lastWrites = s.lastWrites
  rw [checkUnderflow_eq]
  exact memReadW_lastWrites hread

/-- A pointer moved by `[-Rw]`. -/
theorem before_lastWrites {l : Loc} {w : Width} (h : l.before w s = .ok t) : t.lastWrites = s.lastWrites := by
  cases l
  case indDec n =>
    simp only [Loc.before, Res.bind_ok] at h
    obtain ⟨⟨p, u⟩, hread, hwrite⟩ := h
    exact (memWriteW_lastWrites hwrite).trans (memReadW_lastWrites hread)
  all_goals
    cases h
    rfl

/-- A pointer moved by `[Rw+]`. -/
theorem after_lastWrites {l : Loc} {w : Width} (h : l.after w s = .ok t) : t.lastWrites = s.lastWrites := by
  cases l
  case indInc n =>
    simp only [Loc.after, Res.bind_ok] at h
    obtain ⟨⟨p, u⟩, hread, hwrite⟩ := h
    exact (memWriteW_lastWrites hwrite).trans (memReadW_lastWrites hread)
  all_goals
    cases h
    rfl

/-- CSP pushed. -/
theorem pushSegment_lastWrites (h : pushSegment s = .ok t) : t.lastWrites = s.lastWrites := by
  unfold pushSegment at h
  split at h
  · cases h
    rfl
  · simp only [Res.bind_ok, Except.ok.injEq] at h
    obtain ⟨u, hu, rfl⟩ := h
    exact (push_lastWrites hu :)

/-- CSP popped. -/
theorem popSegment_lastWrites (h : popSegment s = .ok t) : t.lastWrites = s.lastWrites := by
  unfold popSegment at h
  split at h
  · cases h
    rfl
  · simp only [Res.bind_ok, Except.ok.injEq] at h
    obtain ⟨⟨csp, u⟩, hu, rfl⟩ := h
    exact pop_lastWrites hu

/-- A trap entry. -/
theorem enterTrap_lastWrites {n : BitVec 7} {ret : Word} {level : Option (BitVec 4)}
    (h : enterTrap n ret level s = .ok t) : t.lastWrites = s.lastWrites := by
  simp only [enterTrap, Res.bind_ok, Except.ok.injEq] at h
  obtain ⟨u, hu, v, hv, w, hw, rfl⟩ := h
  refine (push_lastWrites hw).trans ((pushSegment_lastWrites hv).trans ((push_lastWrites hu).trans ?_))
  cases level <;> rfl

/-- A trap return. -/
theorem returnFromTrap_lastWrites (h : returnFromTrap s = .ok t) : t.lastWrites = s.lastWrites := by
  obtain ⟨-, ip, a, b, psw, c, ha, hb, hc, hpsw⟩ := (returnFromTrap_ok s t).1 h
  obtain ⟨-, rfl⟩ := (storeCore_ok ..).1 hpsw
  exact (storedCore_lastWrites _ _ c).trans
    ((pop_lastWrites hc).trans ((popSegment_lastWrites hb).trans (pop_lastWrites ha)))

end Sys2Proof.Machine

namespace Sys2Proof.Proofs

open Sys2Proof.Machine

/-- Settles O27: the rule at the step, its table row by row, what a destination notes, and what other updates leave. -/
theorem hazardRule : Obligations.HazardRule := by
  refine ⟨fun s i hq hfetch => ?rule, fun i s => ?table, fun pa s t => ?noted, fun s t => ?notNoted,
    fun s => ⟨_, rfl, rfl⟩⟩
  case rule =>
    rw [step_quiet hq]
    refine ⟨fun hseq => runNext_instr hfetch (hazard_sequential hseq i), fun hrefuse =>
      ⟨fun hunused => runNext_instr hfetch (hazard_unused hunused), fun hused => ?_⟩⟩
    obtain ⟨r, hr, huse, hhazard⟩ := hazard_used hrefuse hused
    exact ⟨r, hr, huse, runNext_hazard hfetch hhazard⟩
  case table =>
    intro usesStack inData
    have hstack : Machine.usesStack i = true ↔ usesStack := decide_eq_true_iff
    have hdata : (∃ l ∈ operandLocs i, l.inDataSpace = true) ↔ inData := by simp only [inDataSpace_iff, inData]
    refine ⟨?cp, hstack, hstack, hstack, fun k => ?dpp, ?psw, ?syscon, fun r hr => ?others⟩
    case cp => simp only [usesCore_cp_iff, namesGpr_iff]
    case dpp => rw [usesCore_dpp_iff, hdata]
    case psw =>
      simp only [usesCore_psw_iff, conditionOf_iff, ← exists_and_left]
    case syscon => rw [usesCore_syscon_iff, hdata]
    case others =>
      simp only [List.mem_cons, List.not_mem_nil, or_false] at hr
      rcases hr with rfl | rfl | rfl | rfl | rfl | rfl | rfl | rfl | rfl <;> rfl
  case noted => exact ⟨fun v => writeDstW_lastWrites, fun v => writeDstB_lastWrites⟩
  case notNoted =>
    exact ⟨fun v => push_lastWrites, fun v => pop_lastWrites, fun l w h => h.elim before_lastWrites after_lastWrites,
      fun f => rfl, fun n ret level => enterTrap_lastWrites, returnFromTrap_lastWrites⟩

end Sys2Proof.Proofs
end
